-- ==== Sys2Proof/Word.lean ====
section
/-! DEFINITION. The word types of the block: 32-bit registers, command and data words (D2, D4), 64-bit
magnitude responses, 12-bit register indices, and bytes of a byte-serial transport (R30). -/

namespace Sys2Proof

/-- A register, command word, data word or binary32 pattern (R30). -/
abbrev Word := BitVec 32

/-- A magnitude response or binary64 pattern (R30, R32). -/
abbrev DWord := BitVec 64

/-- A register index, REGIDX (R19, R45). -/
abbrev RegIdx := BitVec 12

/-- A byte on a byte-serial transport (R30). -/
abbrev Byte := BitVec 8

end Sys2Proof
end

