-- ==== Sys2Proof/Syntax.lean ====
section
/-! DEFINITION. The commands of the block (opcode table, R46), the transactions that carry them (R42),
and the names they use: ports, channels, sections, stages, coefficient indices, registers. -/

namespace Sys2Proof

/-- A command port: CP, the control port, or RP, the real-time port (R89). -/
inductive Port where
  | cp
  | rp
  deriving DecidableEq, Repr, Inhabited

/-- An audio channel: 0 left, 1 right (R5 NUM_CHANNELS). -/
inductive Channel where
  | ch0
  | ch1
  deriving DecidableEq, Repr

/-- A section of the chain: LC = 0, PK = 1, HC = 2 (R7, R77). -/
inductive Section where
  | lc
  | pk
  | hc
  deriving DecidableEq, Repr

/-- A stage the block has: four in each cut bank and one peak stage (R5, R19). -/
inductive StageId where
  | lc (i : BitVec 2)
  | pk
  | hc (i : BitVec 2)
  deriving DecidableEq, Repr

/-- A coefficient's place `k` in a set: b0, b1, b2, a1, a2 (R15). -/
inductive CoefIdx where
  | b0
  | b1
  | b2
  | a1
  | a2
  deriving DecidableEq, Repr

/-- A delay-state register's place `j` in its stage (R7). -/
inductive DelayIdx where
  | j0
  | j1
  deriving DecidableEq, Repr

/-- A mapped register of the register space (R19). -/
inductive Reg where
  | sCoef (st : StageId) (k : CoefIdx)
  | sCtrl
  | pCoef (st : StageId) (k : CoefIdx)
  | pCtrl
  | aCoef (ch : Channel) (st : StageId) (k : CoefIdx)
  | delay (ch : Channel) (st : StageId) (j : DelayIdx)
  | chCtrl (ch : Channel)
  | status
  | sr
  | id
  | cfg
  deriving DecidableEq, Repr

/-- A transaction: one command word, and one data word or none (R42). -/
structure Transaction where
  word : Word
  data : Option Word
  deriving DecidableEq, Repr

/-- The response of a command: 32 bits, or 64 bits for MAGQ (R32, R42). -/
inductive Response where
  | w32 (v : Word)
  | w64 (v : DWord)
  deriving DecidableEq, Repr

/-- The width of a response (R42). -/
inductive Width where
  | w32
  | w64
  deriving DecidableEq, Repr

/-- The commands: one constructor for each row of the opcode table (R46). A data word is an argument of
the commands that take one (R43). -/
inductive Instr where
  | nop
  | wrreg (idx : RegIdx) (data : Word)
  | rdreg (idx : RegIdx)
  | publish
  | sync
  | force
  | proc (ch : Channel) (sample : Word)
  | magqDb (ch : Channel) (freq : Word)
  | magqLin (ch : Channel) (freq : Word)
  | magqSec (ch : Channel) (sec : Section) (freq : Word)
  | magqStg (ch : Channel) (sec : Section) (stg : BitVec 2) (freq : Word)
  /-- A transaction of a reserved opcode 0x8 to 0xF, of either length (R43, R47): `op` is bits 31:28 and
  `low` bits 27:0 of its word. -/
  | reservedOp (op : BitVec 4) (low : BitVec 28) (data : Option Word)
  deriving DecidableEq, Repr

end Sys2Proof
end

