-- ==== Sys2Proof/Config.lean ====
section
/-! DEFINITION. What an implementation fixes and the spec leaves open (R5): the parameters with their
legal values, and the free values, which have no body. -/

namespace Sys2Proof

/-- STAGE_FORM (R5, D7): direct form II or transposed direct form II. -/
inductive StageForm where
  | df2
  | tdf2
  deriving DecidableEq, Repr

/-- DENORM_MODE (R5, D9): gradual underflow, or flush-to-zero with denormals-are-zero. -/
inductive DenormMode where
  | ieee
  | ftzDaz
  deriving DecidableEq, Repr

/-- BUS_BYTE_ORDER (R5, R30, D24): the byte order of a word on a byte-serial transport. The spec names the
default, little-endian, and lists no value set. DESIGN CHOICE (log 20): big-endian is the one other
value. Unsafe for a transport that uses a third order. -/
inductive ByteOrder where
  | little
  | big
  deriving DecidableEq, Repr

/-- The open parameters a block is built with. DESIGN CHOICE (log 3): State holds them, and no step
changes them, so a statement about every state is about every block. Safe. -/
structure Params where
  form : StageForm
  denorm : DenormMode
  order : ByteOrder
  deriving DecidableEq, Repr

/-- The defaults of R5, which the spec's test vectors use. -/
def Params.default : Params := { form := .df2, denorm := .ieee, order := .little }

/-- A coefficient set of one stage in the order of R15, with a0 = 1 implied, over any number type. -/
structure Coefs (α : Type) where
  b0 : α
  b1 : α
  b2 : α
  a1 : α
  a2 : α
  deriving DecidableEq, Repr

/-- The free bits (sign and payload) of the `n`-th NaN that PROC draws on a channel (U1, R59).
Free value, log 4. Safe. -/
opaque Config.nanDraw32 : Channel → Nat → BitVec 23

/-- The free bits (sign and payload) of the `n`-th NaN that a magnitude product draws (R5 NAN_RESULT).
Free value, log 4. Safe. -/
opaque Config.nanDraw64 : Nat → BitVec 52

/-- MagFn where its one assumed property says nothing (U2, R68): coefficients, f and fs, the last two
in binary64. Free value, log 5. Safe. -/
opaque Config.magFn : Coefs Word → DWord → DWord → DWord

/-- Log10Fn where its assumed properties say nothing (U3, R87): a positive finite argument other than 1.
Free value, log 6. Safe. -/
opaque Config.log10Fn : DWord → DWord

/-- Sign and payload of the NaN that Log10Fn gives for a negative or NaN argument (U3, R87).
Free value, log 6. Safe. -/
opaque Config.log10NaN : DWord → BitVec 52

/-- The arbiter's `n`-th choice between two waiting ports once the schedule is used up (R37, U6).
Free value, log 2. Safe. -/
opaque Config.arbiterChoice : Nat → Port

end Sys2Proof
end

