-- ==== Sys2Proof/Machine/State.lean ====
section
/-! DEFINITION. The state of the block (10_state.md), the state of the agents and of the arbiter that a
step reads, the reasons to stop, and the state after reset (R29, R119). -/

namespace Sys2Proof.Machine

/-- The four stage slots of a cut bank (R69). -/
structure Bank (α : Type) where
  s0 : α
  s1 : α
  s2 : α
  s3 : α
  deriving DecidableEq, Repr

/-- One value for each of a channel's nine stages: LC 4, PK 1, HC 4 (R26). -/
structure Chain (α : Type) where
  lc : Bank α
  pk : α
  hc : Bank α
  deriving DecidableEq, Repr

/-- The two delay-state registers of a stage (R58). -/
structure Delay (α : Type) where
  d0 : α
  d1 : α
  deriving DecidableEq, Repr

/-- The bypass flags of a channel (R18). -/
structure Bypass where
  lc : Bool
  pk : Bool
  hc : Bool
  deriving DecidableEq, Repr

/-- A coefficient buffer with its control register: the shape of S and of P (R14, R20). -/
structure Buffer where
  coef : Chain (Coefs Word)
  ctrl : Word
  deriving DecidableEq, Repr

/-- The active set of a channel: coefficients, active flags of the two cut banks, bypass flags (R14, R16). -/
structure ActiveSet where
  coef : Chain (Coefs Word)
  actLc : Bank Bool
  actHc : Bank Bool
  byp : Bypass
  deriving DecidableEq, Repr

/-- A turn of the schedule: a port to serve, or the host's reset event (R10, R37, R119). -/
inductive Turn where
  | serve (p : Port)
  | reset
  deriving DecidableEq, Repr

/-- Nothing stops the block: it has no trap and no fault (R111, and 93_implementation_defined.md: no
behaviour is treated as a fault), so there is no reason to fault. Safe: the spec gives every
transaction an effect. -/
inductive Fault where
  deriving DecidableEq, Repr

/-- The reasons for which the model has no meaning. -/
inductive Refusal where
  /-- Raised by `exec` for an instruction without a meaning; no instruction of this model is without
  one. Safe: the model would stop where the block goes on. -/
  | notModelled (mnemonic : String)
  deriving DecidableEq, Repr

/-- The whole state. The first group is the block's (10_state.md), the second its open parameters
(R5), the third the agents', the arbiter's and the draws' (log 1, 2, 4, 9, 10). -/
structure State where
  /-- S (R14) -/
  staging : Buffer
  /-- P (R14) -/
  pending : Buffer
  /-- A[0], ACT[0], BYP[0] (R14, R17, R18) -/
  a0 : ActiveSet
  /-- A[1], ACT[1], BYP[1] -/
  a1 : ActiveSet
  /-- D[0] (R11, R26) -/
  d0 : Chain (Delay Word)
  /-- D[1] -/
  d1 : Chain (Delay Word)
  /-- STATUS.DIRTY (R22) -/
  dirty : Bool
  /-- STATUS.ERR_ILL (R22) -/
  errIll : Bool
  /-- STATUS.ERR_PORT (R22) -/
  errPort : Bool
  /-- STATUS.ERR_UNMAP (R22) -/
  errUnmap : Bool
  /-- STATUS.ERR_RO (R22) -/
  errRo : Bool
  /-- SR (R23) -/
  sr : Word
  /-- the parameters the block was built with (R5) -/
  params : Params
  /-- the port whose command is performed (R90) -/
  port : Port
  /-- what the control agent has issued, oldest first (R12) -/
  cpQueue : List Transaction
  /-- what the real-time agent has issued, oldest first (R12) -/
  rpQueue : List Transaction
  /-- the turns still to come (R5 SCHEDULE, R37) -/
  schedule : List Turn
  /-- free arbiter choices taken -/
  turns : Nat
  /-- responses returned, with the port each went to, newest first (R42) -/
  responses : List (Port × Response)
  /-- NaN draws taken by PROC on channel 0 (R59) -/
  draws0 : Nat
  /-- NaN draws taken by PROC on channel 1 (R59) -/
  draws1 : Nat
  /-- NaN draws taken by magnitude products (R5) -/
  magDraws : Nat
  deriving DecidableEq, Repr

/-- The identity set (R29): b0 = 1.0, the others +0.0. -/
def identityCoefs : Coefs Word := ⟨0x3F800000, 0, 0, 0, 0⟩

/-- The same value in each of four slots. -/
def Bank.const {α : Type} (v : α) : Bank α := ⟨v, v, v, v⟩

/-- The same value for each of nine stages. -/
def Chain.const {α : Type} (v : α) : Chain α := ⟨Bank.const v, v, Bank.const v⟩

/-- A coefficient buffer after reset (R29). -/
def Buffer.reset : Buffer := ⟨Chain.const identityCoefs, 0⟩

/-- An active set after reset (R29): identity sets, stage 0 of each cut bank active, no bypass. -/
def ActiveSet.reset : ActiveSet :=
  ⟨Chain.const identityCoefs, ⟨true, false, false, false⟩, ⟨true, false, false, false⟩, ⟨false, false, false⟩⟩

/-- A channel's delay state after reset (R29): +0.0 everywhere. -/
def resetDelay : Chain (Delay Word) := Chain.const ⟨0, 0⟩

/-- The machine right after reset (R29, R119), built with the default parameters (R5), no transaction
issued and no response returned yet (log 1 to 4, 9, 10). -/
def State.reset : State where
  staging := Buffer.reset
  pending := Buffer.reset
  a0 := ActiveSet.reset
  a1 := ActiveSet.reset
  d0 := resetDelay
  d1 := resetDelay
  dirty := false
  errIll := false
  errPort := false
  errUnmap := false
  errRo := false
  sr := 0x473B8000
  params := Params.default
  port := .cp
  cpQueue := []
  rpQueue := []
  schedule := []
  turns := 0
  responses := []
  draws0 := 0
  draws1 := 0
  magDraws := 0

end Sys2Proof.Machine
end

