-- ==== Sys2Proof/Machine/Float.lean ====
section
/-! DEFINITION. IEEE 754 arithmetic of the block: binary32 addition, subtraction and multiplication
(R8, R59) and binary64 multiplication (R8), each with one rounding to nearest, ties to even.

A finite value is a sign and a whole number of units, a unit being the smallest subnormal: 2^-149 in
binary32 and 2^-1074 in binary64. Sums are then exact in units and products exact in squared units. -/

namespace Sys2Proof.Machine

/-- A floating-point datum: NaN, an infinity, or sign and magnitude in units. -/
inductive Fp where
  | nan
  | inf (neg : Bool)
  | fin (neg : Bool) (mag : Nat)
  deriving DecidableEq, Repr

/-- The datum with the other sign. -/
def Fp.negate : Fp → Fp
  | .nan => .nan
  | .inf s => .inf (!s)
  | .fin s n => .fin (!s) n

/-- The exact sum. An exact zero from operands of unlike sign is +0 (R59: nearest, ties to even);
`inf − inf` and any NaN operand give NaN (R59). -/
def Fp.addExact : Fp → Fp → Fp
  | .nan, _ => .nan
  | .inf _, .nan => .nan
  | .fin _ _, .nan => .nan
  | .inf s, .inf t => if s = t then .inf s else .nan
  | .inf s, .fin _ _ => .inf s
  | .fin _ _, .inf t => .inf t
  | .fin s n, .fin t m =>
    if s = t then .fin s (n + m)
    else if m < n then .fin s (n - m)
    else if n < m then .fin t (m - n)
    else .fin false 0

/-- The exact product, a finite one in squared units. `0 × ±inf` and any NaN operand give NaN (R59). -/
def Fp.mulExact : Fp → Fp → Fp
  | .nan, _ => .nan
  | .inf _, .nan => .nan
  | .fin _ _, .nan => .nan
  | .inf s, .inf t => .inf (s ^^ t)
  | .inf s, .fin t m => if m = 0 then .nan else .inf (s ^^ t)
  | .fin s n, .inf t => if n = 0 then .nan else .inf (s ^^ t)
  | .fin s n, .fin t m => .fin (s ^^ t) (n * m)

/-- `n / 2^k` rounded to the nearest whole number, ties to even. -/
def roundNE (n k : Nat) : Nat :=
  let q := n / 2 ^ k
  let r := n % 2 ^ k
  if 2 ^ k < 2 * r ∨ (2 * r = 2 ^ k ∧ q % 2 = 1) then q + 1 else q

/-- The bits (sign apart) of the number nearest to `n · 2^-x` units, ties to even, in a format with `fb`
fraction bits: keep `fb + 1` significant bits but never less than a unit, and pack. The exponent
field counts the bits dropped beyond `x`, and a carry of the rounding runs into it. -/
def roundBits (fb n x : Nat) : Nat :=
  let k := max x (Nat.log2 n - fb)
  (k - x) * 2 ^ fb + roundNE n k

/-! ## binary32 -/

/-- Exponent and fraction fields of a binary32 pattern, bits 30:0. -/
def absBits32 (w : Word) : Nat := w.toNat % 2 ^ 31

/-- The magnitude of a finite binary32 pattern in units of 2^-149. Under FTZ_DAZ a subnormal is read as
a zero (R59). -/
def mag32 (mode : DenormMode) (w : Word) : Nat :=
  let e := absBits32 w / 2 ^ 23
  let f := absBits32 w % 2 ^ 23
  if e = 0 then
    match mode with
    | .ieee => f
    | .ftzDaz => 0
  else (2 ^ 23 + f) * 2 ^ (e - 1)

/-- `f32(w)` as an operand under a DENORM_MODE (R8, R59). -/
def read32 (mode : DenormMode) (w : Word) : Fp :=
  if 0x7F800000 < absBits32 w then .nan
  else if absBits32 w = 0x7F800000 then .inf w.msb
  else .fin w.msb (mag32 mode w)

/-- A binary32 pattern from its sign and bits 30:0. -/
def pattern32 (neg : Bool) (bits : Nat) : Word := BitVec.ofNat 32 (bits + if neg then 2 ^ 31 else 0)

/-- A finite exact result of `n · 2^-x` units, rounded: overflow gives an infinity, and under FTZ_DAZ a
result whose rounded value is subnormal becomes a zero of the same sign (R59). -/
def finish32 (mode : DenormMode) (neg : Bool) (n x : Nat) : Word :=
  let bits := min (roundBits 23 n x) 0x7F800000
  match mode with
  | .ieee => pattern32 neg bits
  | .ftzDaz => pattern32 neg (if bits < 2 ^ 23 then 0 else bits)

/-- The quiet NaN with the drawn sign and payload (R59, U1). -/
def quietNaN32 (draw : BitVec 23) : Word :=
  draw.extractLsb' 22 1 ++ (0x1FF : BitVec 9) ++ draw.extractLsb' 0 22

/-- The result pattern of an exact datum in units of `2^-(149+x)`, with the draw counter: a NaN takes the
channel's next draw. -/
def write32 (mode : DenormMode) (ch : Channel) (x : Nat) (r : Fp) (n : Nat) : Word × Nat :=
  match r with
  | .nan => (quietNaN32 (Config.nanDraw32 ch n), n + 1)
  | .inf s => (pattern32 s 0x7F800000, n)
  | .fin s m => (finish32 mode s m x, n)

/-- `add32` (R8, R59). -/
def add32 (mode : DenormMode) (ch : Channel) (a b : Word) (n : Nat) : Word × Nat :=
  write32 mode ch 0 ((read32 mode a).addExact (read32 mode b)) n

/-- `sub32` (R8, R59). -/
def sub32 (mode : DenormMode) (ch : Channel) (a b : Word) (n : Nat) : Word × Nat :=
  write32 mode ch 0 ((read32 mode a).addExact (read32 mode b).negate) n

/-- `mul32` (R8, R59). -/
def mul32 (mode : DenormMode) (ch : Channel) (a b : Word) (n : Nat) : Word × Nat :=
  write32 mode ch 149 ((read32 mode a).mulExact (read32 mode b)) n

/-! ## binary64 -/

/-- Exponent and fraction fields of a binary64 pattern, bits 62:0. -/
def absBits64 (w : DWord) : Nat := w.toNat % 2 ^ 63

/-- The magnitude of a finite binary64 pattern in units of 2^-1074. -/
def mag64 (w : DWord) : Nat :=
  let e := absBits64 w / 2 ^ 52
  let f := absBits64 w % 2 ^ 52
  if e = 0 then f else (2 ^ 52 + f) * 2 ^ (e - 1)

/-- `f64(w)` as an operand (R8). Subnormals are kept: DENORM_MODE is a rule of binary32 operations.
DEDUCED (R59; log 7). Unsafe. -/
def read64 (w : DWord) : Fp :=
  if 0x7FF0000000000000 < absBits64 w then .nan
  else if absBits64 w = 0x7FF0000000000000 then .inf w.msb
  else .fin w.msb (mag64 w)

/-- A binary64 pattern from its sign and bits 62:0. -/
def pattern64 (neg : Bool) (bits : Nat) : DWord := BitVec.ofNat 64 (bits + if neg then 2 ^ 63 else 0)

/-- A finite exact result of `n · 2^-x` units, rounded, with overflow to an infinity (R8). -/
def finish64 (neg : Bool) (n x : Nat) : DWord :=
  pattern64 neg (min (roundBits 52 n x) 0x7FF0000000000000)

/-- The quiet NaN with the drawn sign and payload (R5 NAN_RESULT). -/
def quietNaN64 (draw : BitVec 52) : DWord :=
  draw.extractLsb' 51 1 ++ (0xFFF : BitVec 12) ++ draw.extractLsb' 0 51

/-- The result pattern of an exact datum in units of `2^-(1074+x)`, with the draw counter. -/
def write64 (x : Nat) (r : Fp) (n : Nat) : DWord × Nat :=
  match r with
  | .nan => (quietNaN64 (Config.nanDraw64 n), n + 1)
  | .inf s => (pattern64 s 0x7FF0000000000000, n)
  | .fin s m => (finish64 s m x, n)

/-- `mul64` (R8): binary64 multiplication, rounded to nearest with ties to even. -/
def mul64 (a b : DWord) (n : Nat) : DWord × Nat :=
  write64 1074 ((read64 a).mulExact (read64 b)) n

/-- A finite binary32 magnitude in units, widened exactly to binary64 (R84): 2^-149 is 2^925 units of
binary64. -/
def widenFin (neg : Bool) (mag : Nat) : DWord := finish64 neg (mag * 2 ^ 925) 0

/-! ## Literals -/

/-- The binary32 value nearest to the decimal `digits / 10^scale`, ties to even (R48 `f:<decimal>`). The
quotient keeps two bits below a unit, the lowest of them set when the division leaves a rest, so
that a tie is told from a near tie. R48 says nothing of two cases: a negative decimal that is zero or
rounds to zero gives −0, and a decimal past the largest finite number gives the infinity of its sign
when it rounds up to 2^128, as roundTiesToEven does. DESIGN CHOICE (log 17). Unsafe. -/
def decimal32 (neg : Bool) (digits scale : Nat) : Word :=
  let n := digits * 2 ^ 150
  let q := n / 10 ^ scale
  let rest := if n % 10 ^ scale = 0 then 0 else 1
  finish32 .ieee neg (2 * q + rest) 2

end Sys2Proof.Machine
end

