-- ==== Sys2Proof/Machine/Stage.lean ====
section
/-! DEFINITION. The FilterStage (41_filter_stage.md): StageProcess in both forms over any arithmetic,
and its two arithmetics, binary32 (the block's) and exact rational (R60). -/

namespace Sys2Proof.Machine

/-- Addition, subtraction and multiplication, each with the NaN draw counter passed through. -/
structure Arith (α : Type) where
  add : α → α → Nat → α × Nat
  sub : α → α → Nat → α × Nat
  mul : α → α → Nat → α × Nat

/-- The block's arithmetic on a channel (R59). -/
def arith32 (mode : DenormMode) (ch : Channel) : Arith Word where
  add := add32 mode ch
  sub := sub32 mode ch
  mul := mul32 mode ch

/-- Exact arithmetic (R60). No rounding and no NaN, so no draw is taken. -/
def arithExact : Arith ℚ where
  add a b n := (a + b, n)
  sub a b n := (a - b, n)
  mul a b n := (a * b, n)

/-- What a stage gives: the output sample, its new delay state, the draw counter. -/
structure StageOut (α : Type) where
  y : α
  delay : Delay α
  draws : Nat
  deriving DecidableEq, Repr

/-- `StageProcess_DF2` (R61), in the order and grouping of its pseudocode. -/
def stageDf2 {α : Type} (ar : Arith α) (c : Coefs α) (d : Delay α) (x : α) (n : Nat) : StageOut α :=
  let m1 := ar.mul c.a1 d.d0 n
  let s1 := ar.sub x m1.1 m1.2
  let m2 := ar.mul c.a2 d.d1 s1.2
  let w := ar.sub s1.1 m2.1 m2.2
  let p0 := ar.mul c.b0 w.1 w.2
  let p1 := ar.mul c.b1 d.d0 p0.2
  let t := ar.add p0.1 p1.1 p1.2
  let p2 := ar.mul c.b2 d.d1 t.2
  let y := ar.add t.1 p2.1 p2.2
  ⟨y.1, ⟨w.1, d.d0⟩, y.2⟩

/-- `StageProcess_TDF2` (R62), in the order and grouping of its pseudocode. -/
def stageTdf2 {α : Type} (ar : Arith α) (c : Coefs α) (d : Delay α) (x : α) (n : Nat) : StageOut α :=
  let p0 := ar.mul c.b0 x n
  let y := ar.add p0.1 d.d0 p0.2
  let p1 := ar.mul c.b1 x y.2
  let q1 := ar.mul c.a1 y.1 p1.2
  let t := ar.sub p1.1 q1.1 q1.2
  let e0 := ar.add t.1 d.d1 t.2
  let p2 := ar.mul c.b2 x e0.2
  let q2 := ar.mul c.a2 y.1 p2.2
  let e1 := ar.sub p2.1 q2.1 q2.2
  ⟨y.1, ⟨e0.1, e1.1⟩, e1.2⟩

/-- `StageProcess` in the form STAGE_FORM names (R61, R62). -/
def stageProcess {α : Type} (form : StageForm) (ar : Arith α) (c : Coefs α) (d : Delay α) (x : α)
    (n : Nat) : StageOut α :=
  match form with
  | .df2 => stageDf2 ar c d x n
  | .tdf2 => stageTdf2 ar c d x n

/-- A stage slot that runs only when its flag is set; otherwise the sample and the stage's state pass
unchanged (R73, R78). -/
def stageWhen {α : Type} (on : Bool) (form : StageForm) (ar : Arith α) (c : Coefs α) (d : Delay α)
    (x : α) (n : Nat) : StageOut α :=
  if on then stageProcess form ar c d x n else ⟨x, d, n⟩

/-- The outputs of one stage for a sequence of samples, oldest first. -/
def stageOutputs {α : Type} (form : StageForm) (ar : Arith α) (c : Coefs α) :
    Delay α → List α → Nat → List α
  | _, [], _ => []
  | d, x :: xs, n =>
    let r := stageProcess form ar c d x n
    r.y :: stageOutputs form ar c r.delay xs r.draws

end Sys2Proof.Machine
end

