-- ==== Sys2Proof/Machine/Bank.lean ====
section
/-! DEFINITION. The CutFilterBank (42_cut_filter_bank.md): Configure and BankProcess, and access to the
slots of a bank and the stages of a channel. -/

namespace Sys2Proof.Machine

/-- A bank's slot (R69). -/
def Bank.get {α : Type} (b : Bank α) (i : BitVec 2) : α :=
  if i = 0 then b.s0 else if i = 1 then b.s1 else if i = 2 then b.s2 else b.s3

/-- A bank with one slot replaced. -/
def Bank.set {α : Type} (b : Bank α) (i : BitVec 2) (v : α) : Bank α :=
  if i = 0 then { b with s0 := v }
  else if i = 1 then { b with s1 := v }
  else if i = 2 then { b with s2 := v }
  else { b with s3 := v }

/-- A channel's stage (R19). -/
def Chain.get {α : Type} (c : Chain α) : StageId → α
  | .lc i => c.lc.get i
  | .pk => c.pk
  | .hc i => c.hc.get i

/-- A channel with one stage replaced. -/
def Chain.set {α : Type} (c : Chain α) (st : StageId) (v : α) : Chain α :=
  match st with
  | .lc i => { c with lc := c.lc.set i v }
  | .pk => { c with pk := v }
  | .hc i => { c with hc := c.hc.set i v }

/-- The active flags for a slope order ORD: stages 0 to ORD (R17, R70). -/
def activeFlags (ord : BitVec 2) : Bank Bool :=
  let n := ord.toNat + 1
  ⟨decide (0 < n), decide (1 < n), decide (2 < n), decide (3 < n)⟩

/-- The coefficients after `Configure` (R71): the active stages take theirs from the set, the others
keep their own. -/
def configureCoefs (ord : BitVec 2) (new old : Bank (Coefs Word)) : Bank (Coefs Word) :=
  let act := activeFlags ord
  ⟨if act.s0 then new.s0 else old.s0, if act.s1 then new.s1 else old.s1,
   if act.s2 then new.s2 else old.s2, if act.s3 then new.s3 else old.s3⟩

/-- What a bank gives: the output sample, its new delay state, the draw counter. -/
structure BankOut (α : Type) where
  y : α
  delay : Bank (Delay α)
  draws : Nat
  deriving DecidableEq, Repr

/-- `BankProcess` (R73): the sample runs through the active stages in index order 0 to 3. -/
def bankProcess {α : Type} (form : StageForm) (ar : Arith α) (act : Bank Bool) (c : Bank (Coefs α))
    (d : Bank (Delay α)) (x : α) (n : Nat) : BankOut α :=
  let r0 := stageWhen act.s0 form ar c.s0 d.s0 x n
  let r1 := stageWhen act.s1 form ar c.s1 d.s1 r0.y r0.draws
  let r2 := stageWhen act.s2 form ar c.s2 d.s2 r1.y r1.draws
  let r3 := stageWhen act.s3 form ar c.s3 d.s3 r2.y r2.draws
  ⟨r3.y, ⟨r0.delay, r1.delay, r2.delay, r3.delay⟩, r3.draws⟩

/-- A bank that runs only when its section is not bypassed (R78). -/
def bankWhen {α : Type} (on : Bool) (form : StageForm) (ar : Arith α) (act : Bank Bool)
    (c : Bank (Coefs α)) (d : Bank (Delay α)) (x : α) (n : Nat) : BankOut α :=
  if on then bankProcess form ar act c d x n else ⟨x, d, n⟩

end Sys2Proof.Machine
end

