-- ==== Sys2Proof/Machine/Flags.lean ====
section
/-! DEFINITION. The fields of the control and status registers: S.CTRL and P.CTRL (R20), CH0.CTRL and
CH1.CTRL (R21), STATUS (R22), CFG and ID (R24, R25), and which error bit a command error sets (R106). -/

namespace Sys2Proof.Machine

/-! ## S.CTRL and P.CTRL (R20) -/

/-- The bits of S.CTRL that a write stores; the others are write-any-read-zero. -/
def ctrlMask : Word := 0x0000077F

/-- LC_ORD, bits 1:0. -/
def ctrlLcOrd (c : Word) : BitVec 2 := c.extractLsb' 0 2

/-- HC_ORD, bits 3:2. -/
def ctrlHcOrd (c : Word) : BitVec 2 := c.extractLsb' 2 2

/-- LC_BYP, PK_BYP and HC_BYP, bits 4, 5 and 6. -/
def ctrlBypass (c : Word) : Bypass := ⟨c.getLsbD 4, c.getLsbD 5, c.getLsbD 6⟩

/-- LC_VAL, bit 8. -/
def ctrlLcVal (c : Word) : Bool := c.getLsbD 8

/-- PK_VAL, bit 9. -/
def ctrlPkVal (c : Word) : Bool := c.getLsbD 9

/-- HC_VAL, bit 10. -/
def ctrlHcVal (c : Word) : Bool := c.getLsbD 10

/-! ## Views -/

/-- One bit at a place of a register, the other bits 0. -/
def bitAt (b : Bool) (i : Nat) : Word := if b then 1 <<< i else 0

/-- CHn.CTRL: LC_ACT in bits 3:0, HC_ACT in 7:4, LC_BYP, PK_BYP and HC_BYP in 8, 9 and 10 (R21). -/
def chCtrlWord (a : ActiveSet) : Word :=
  bitAt a.actLc.s0 0 ||| bitAt a.actLc.s1 1 ||| bitAt a.actLc.s2 2 ||| bitAt a.actLc.s3 3 |||
  bitAt a.actHc.s0 4 ||| bitAt a.actHc.s1 5 ||| bitAt a.actHc.s2 6 ||| bitAt a.actHc.s3 7 |||
  bitAt a.byp.lc 8 ||| bitAt a.byp.pk 9 ||| bitAt a.byp.hc 10

/-- STATUS: DIRTY in bit 0, the sticky error bits in 8 to 11, the rest 0 (R22). -/
def statusWord (s : State) : Word :=
  bitAt s.dirty 0 ||| bitAt s.errIll 8 ||| bitAt s.errPort 9 ||| bitAt s.errUnmap 10 ||| bitAt s.errRo 11

/-- ID (R24). -/
def idWord : Word := 0x53455131

/-- CFG: FORM in bit 0, DENORM in bit 1, NSTAGES = 4 in 7:4, NCH = 2 in 11:8 (R25). -/
def cfgWord (p : Params) : Word :=
  bitAt (decide (p.form = .tdf2)) 0 ||| bitAt (decide (p.denorm = .ftzDaz)) 1 ||| 0x240

/-! ## Errors -/

/-- The command errors (R106). -/
inductive Err where
  | ill
  | port
  | unmap
  | ro
  deriving DecidableEq, Repr

/-- `STATUS.ERR_kind <- 1` (R107). -/
def State.setError (s : State) : Err → State
  | .ill => { s with errIll := true }
  | .port => { s with errPort := true }
  | .unmap => { s with errUnmap := true }
  | .ro => { s with errRo := true }

end Sys2Proof.Machine
end

