-- ==== Sys2Proof/Machine/Operands.lean ====
section
/-! DEFINITION. Operands of the commands: the register an index names (R19), the stage that section and
stage numbers name, a frequency and a sample rate read for a magnitude query (R84). -/

namespace Sys2Proof.Machine

/-! ## The register map (R19) -/

/-- `sec·0x20 + stg·0x08`, a stage's place in a layout. -/
def stageOffset : StageId → Nat
  | .lc i => i.toNat * 0x08
  | .pk => 0x20
  | .hc i => 0x40 + i.toNat * 0x08

/-- The coefficient number `k` (R15). -/
def coefNumber : CoefIdx → Nat
  | .b0 => 0
  | .b1 => 1
  | .b2 => 2
  | .a1 => 3
  | .a2 => 4

/-- The delay register number `j`. -/
def delayNumber : DelayIdx → Nat
  | .j0 => 0
  | .j1 => 1

/-- A register's index. -/
def regIndex : Reg → RegIdx
  | .sCoef st k => BitVec.ofNat 12 (stageOffset st + coefNumber k)
  | .sCtrl => 0x080
  | .pCoef st k => BitVec.ofNat 12 (0x100 + stageOffset st + coefNumber k)
  | .pCtrl => 0x180
  | .aCoef .ch0 st k => BitVec.ofNat 12 (0x200 + stageOffset st + coefNumber k)
  | .aCoef .ch1 st k => BitVec.ofNat 12 (0x280 + stageOffset st + coefNumber k)
  | .delay .ch0 st j => BitVec.ofNat 12 (0x300 + stageOffset st + delayNumber j)
  | .delay .ch1 st j => BitVec.ofNat 12 (0x380 + stageOffset st + delayNumber j)
  | .chCtrl .ch0 => 0x400
  | .chCtrl .ch1 => 0x401
  | .status => 0x410
  | .sr => 0x411
  | .id => 0x412
  | .cfg => 0x413

/-- The stage at an offset of a layout, none in the holes of PK and section 3. -/
def stageAt (off : Nat) : Option StageId :=
  let sec := off / 0x20
  let stg := off % 0x20 / 0x08
  if sec = 0 then some (.lc (BitVec.ofNat 2 stg))
  else if sec = 1 then (if stg = 0 then some .pk else none)
  else if sec = 2 then some (.hc (BitVec.ofNat 2 stg))
  else none

/-- The coefficient at an offset, none for k = 5 to 7. -/
def coefAt (off : Nat) : Option CoefIdx :=
  let k := off % 0x08
  if k = 0 then some .b0 else if k = 1 then some .b1 else if k = 2 then some .b2
  else if k = 3 then some .a1 else if k = 4 then some .a2 else none

/-- The delay register at an offset, none for j = 2 to 7. -/
def delayAt (off : Nat) : Option DelayIdx :=
  let j := off % 0x08
  if j = 0 then some .j0 else if j = 1 then some .j1 else none

/-- A register of a coefficient layout at an offset below 0x80. -/
def coefReg (mk : StageId → CoefIdx → Reg) (off : Nat) : Option Reg :=
  match stageAt off, coefAt off with
  | some st, some k => some (mk st k)
  | _, _ => none

/-- A register of a delay-state layout at an offset below 0x80. -/
def delayReg (ch : Channel) (off : Nat) : Option Reg :=
  match stageAt off, delayAt off with
  | some st, some j => some (.delay ch st j)
  | _, _ => none

/-- A control register by its index. -/
def controlReg (n : Nat) : Option Reg :=
  if n = 0x080 then some .sCtrl
  else if n = 0x180 then some .pCtrl
  else if n = 0x400 then some (.chCtrl .ch0)
  else if n = 0x401 then some (.chCtrl .ch1)
  else if n = 0x410 then some .status
  else if n = 0x411 then some .sr
  else if n = 0x412 then some .id
  else if n = 0x413 then some .cfg
  else none

/-- The register an index names; none where the index is unmapped (R19). -/
def regAt (idx : RegIdx) : Option Reg :=
  let n := idx.toNat
  let block := n / 0x80
  let off := n % 0x80
  if block = 0 then coefReg .sCoef off
  else if block = 2 then coefReg .pCoef off
  else if block = 4 then coefReg (.aCoef .ch0) off
  else if block = 5 then coefReg (.aCoef .ch1) off
  else if block = 6 then delayReg .ch0 off
  else if block = 7 then delayReg .ch1 off
  else controlReg n

/-- Access RW in the register map; every other mapped register is RO (R19, R92). -/
def regWritable : Reg → Bool
  | .sCoef _ _ => true
  | .sCtrl => true
  | .sr => true
  | _ => false

/-! ## Stages and frequencies -/

/-- The stage of a section and a stage number; PK has stage 0 only (R47). -/
def stageOf (sec : Section) (stg : BitVec 2) : Option StageId :=
  match sec with
  | .lc => some (.lc stg)
  | .pk => if stg = 0 then some .pk else none
  | .hc => some (.hc stg)

/-- `f` and `fs` of a magnitude query, widened exactly to binary64; none where `f` is not finite, or `fs`
is not finite, or `fs ≤ 0` (R84). Widening is no operation of R59, so DENORM_MODE plays no part. -/
def queryPoint (freq sr : Word) : Option (DWord × DWord) :=
  match read32 .ieee freq, read32 .ieee sr with
  | .fin s n, .fin false (m + 1) => some (widenFin s n, widenFin false (m + 1))
  | _, _ => none

end Sys2Proof.Machine
end

