-- ==== Sys2Proof/Machine/Chain.lean ====
section
/-! DEFINITION. The ChannelChain and EngineState (43_channel_chain.md): ChainProcess (R78) and Commit on
one active set (R80). -/

namespace Sys2Proof.Machine

/-- What a chain gives: the output sample, the channel's new delay state, the draw counter. -/
structure ChainOut (α : Type) where
  y : α
  delay : Chain (Delay α)
  draws : Nat
  deriving DecidableEq, Repr

/-- `ChainProcess` (R77, R78): LC, then PK, then HC, each unless bypassed. -/
def chainProcess (form : StageForm) (ar : Arith Word) (a : ActiveSet) (d : Chain (Delay Word)) (x : Word)
    (n : Nat) : ChainOut Word :=
  let r0 := bankWhen (!a.byp.lc) form ar a.actLc a.coef.lc d.lc x n
  let r1 := stageWhen (!a.byp.pk) form ar a.coef.pk d.pk r0.y r0.draws
  let r2 := bankWhen (!a.byp.hc) form ar a.actHc a.coef.hc d.hc r1.y r1.draws
  ⟨r2.y, ⟨r0.delay, r1.delay, r2.delay⟩, r2.draws⟩

/-- `Commit` on one channel's active set (R80): each section whose VAL bit is set takes the pending set,
and with it a cut bank its active count; the bypass flags are always applied. -/
def commitActive (p : Buffer) (a : ActiveSet) : ActiveSet where
  coef :=
    { lc := if ctrlLcVal p.ctrl then configureCoefs (ctrlLcOrd p.ctrl) p.coef.lc a.coef.lc else a.coef.lc
      pk := if ctrlPkVal p.ctrl then p.coef.pk else a.coef.pk
      hc := if ctrlHcVal p.ctrl then configureCoefs (ctrlHcOrd p.ctrl) p.coef.hc a.coef.hc else a.coef.hc }
  actLc := if ctrlLcVal p.ctrl then activeFlags (ctrlLcOrd p.ctrl) else a.actLc
  actHc := if ctrlHcVal p.ctrl then activeFlags (ctrlHcOrd p.ctrl) else a.actHc
  byp := ctrlBypass p.ctrl

end Sys2Proof.Machine
end

