-- ==== Sys2Proof/Machine/Magnitude.lean ====
section
/-! DEFINITION. Magnitude evaluation: StageMag (R68), BankMag (R76), SecMag, ChainMag and ChainDb
(R84 to R87). -/

namespace Sys2Proof.Machine

/-- 1.0 in binary64. -/
def one64 : DWord := 0x3FF0000000000000

/-- 20.0 in binary64. -/
def twenty64 : DWord := 0x4034000000000000

/-- The NaN that a query with a bad frequency or sample rate returns (R84). -/
def queryNaN : DWord := 0x7FF8000000000000

/-- A coefficient that is +0 or −0. -/
def isZero32 (w : Word) : Bool := absBits32 w == 0

/-- `b1 = b2 = a1 = a2 = 0`: the pure gains of U2 (R68). -/
def pureGain (c : Coefs Word) : Bool := isZero32 c.b1 && isZero32 c.b2 && isZero32 c.a1 && isZero32 c.a2

/-- `StageMag` (R68): `|b0|` exactly for a pure gain, MagFn for everything else. The magnitude of a NaN
`b0` is MagFn's too. DEDUCED (R68 says nothing of a NaN coefficient; log 5). Safe. -/
def stageMag (c : Coefs Word) (f fs : DWord) : DWord :=
  if pureGain c then
    match read32 .ieee c.b0 with
    | .nan => Config.magFn c f fs
    | .inf _ => pattern64 false 0x7FF0000000000000
    | .fin _ n => widenFin false n
  else Config.magFn c f fs

/-- One factor of a product: no multiplication where the flag is clear (R76, R86). -/
def mulWhen (on : Bool) (m : DWord × Nat) (v : DWord) : DWord × Nat :=
  if on then mul64 m.1 v m.2 else m

/-- `BankMag` (R76), with the draw counter. -/
def bankMag (act : Bank Bool) (c : Bank (Coefs Word)) (f fs : DWord) (n : Nat) : DWord × Nat :=
  let m0 := mulWhen act.s0 (one64, n) (stageMag c.s0 f fs)
  let m1 := mulWhen act.s1 m0 (stageMag c.s1 f fs)
  let m2 := mulWhen act.s2 m1 (stageMag c.s2 f fs)
  mulWhen act.s3 m2 (stageMag c.s3 f fs)

/-- A section's bypass flag (R18). -/
def Bypass.get (b : Bypass) : Section → Bool
  | .lc => b.lc
  | .pk => b.pk
  | .hc => b.hc

/-- `SecMag` (R85), with the draw counter. -/
def secMag (a : ActiveSet) (sec : Section) (f fs : DWord) (n : Nat) : DWord × Nat :=
  if a.byp.get sec then (one64, n)
  else match sec with
    | .lc => bankMag a.actLc a.coef.lc f fs n
    | .pk => (stageMag a.coef.pk f fs, n)
    | .hc => bankMag a.actHc a.coef.hc f fs n

/-- One section's turn in the product of `ChainMag`: a bypassed section performs no multiplication. -/
def chainMagStep (a : ActiveSet) (f fs : DWord) (m : DWord × Nat) (sec : Section) : DWord × Nat :=
  if a.byp.get sec then m
  else
    let v := secMag a sec f fs m.2
    mul64 m.1 v.1 v.2

/-- `ChainMag` (R86), with the draw counter: chain order LC, PK, HC, starting from 1.0. -/
def chainMag (a : ActiveSet) (f fs : DWord) (n : Nat) : DWord × Nat :=
  chainMagStep a f fs (chainMagStep a f fs (chainMagStep a f fs (one64, n) .lc) .pk) .hc

/-- Log10Fn with its assumed properties (R87, U3), a free value elsewhere (log 6). -/
def log10Of (x : DWord) : DWord :=
  match read64 x with
  | .nan => quietNaN64 (Config.log10NaN x)
  | .inf false => pattern64 false 0x7FF0000000000000
  | .inf true => quietNaN64 (Config.log10NaN x)
  | .fin _ 0 => pattern64 true 0x7FF0000000000000
  | .fin true (_ + 1) => quietNaN64 (Config.log10NaN x)
  | .fin false (_ + 1) => if x = one64 then 0 else Config.log10Fn x

/-- `ChainDb` (R87), with the draw counter. -/
def chainDb (a : ActiveSet) (f fs : DWord) (n : Nat) : DWord × Nat :=
  let m := chainMag a f fs n
  mul64 twenty64 (log10Of m.1) m.2

end Sys2Proof.Machine
end

