-- ==== Sys2Proof/Machine/Ops.lean ====
section
/-! DEFINITION. The shared operations over the state: the two channels' parts of it, register reads and
writes (R7, R19), responses (R42), raising an error (R107), publish, commit, reset, processing and
magnitude queries. -/

namespace Sys2Proof.Machine

/-- What a meaning answers. -/
abbrev Answer := Host.Outcome State Fault Refusal

/-! ## The channels' parts of the state -/

/-- A[ch], ACT[ch] and BYP[ch] (R16). -/
def State.active (s : State) : Channel → ActiveSet
  | .ch0 => s.a0
  | .ch1 => s.a1

/-- D[ch] (R11). -/
def State.delay (s : State) : Channel → Chain (Delay Word)
  | .ch0 => s.d0
  | .ch1 => s.d1

/-- The NaN draws PROC has taken on a channel (log 4). -/
def State.draws (s : State) : Channel → Nat
  | .ch0 => s.draws0
  | .ch1 => s.draws1

/-- Writes a channel's delay state and its draw counter. -/
def State.setDelay (s : State) (ch : Channel) (d : Chain (Delay Word)) (n : Nat) : State :=
  match ch with
  | .ch0 => { s with d0 := d, draws0 := n }
  | .ch1 => { s with d1 := d, draws1 := n }

/-! ## Register reads and writes (R7, R19) -/

/-- A coefficient of a set. -/
def Coefs.get (c : Coefs Word) : CoefIdx → Word
  | .b0 => c.b0
  | .b1 => c.b1
  | .b2 => c.b2
  | .a1 => c.a1
  | .a2 => c.a2

/-- A set with one coefficient replaced. -/
def Coefs.set (c : Coefs Word) (k : CoefIdx) (v : Word) : Coefs Word :=
  match k with
  | .b0 => { c with b0 := v }
  | .b1 => { c with b1 := v }
  | .b2 => { c with b2 := v }
  | .a1 => { c with a1 := v }
  | .a2 => { c with a2 := v }

/-- A delay register of a stage. -/
def Delay.get (d : Delay Word) : DelayIdx → Word
  | .j0 => d.d0
  | .j1 => d.d1

/-- `RegRead` of a mapped register (R7, R19 to R25). -/
def regRead (s : State) : Reg → Word
  | .sCoef st k => Coefs.get (s.staging.coef.get st) k
  | .sCtrl => s.staging.ctrl
  | .pCoef st k => Coefs.get (s.pending.coef.get st) k
  | .pCtrl => s.pending.ctrl
  | .aCoef ch st k => Coefs.get ((s.active ch).coef.get st) k
  | .delay ch st j => ((s.delay ch).get st).get j
  | .chCtrl ch => chCtrlWord (s.active ch)
  | .status => statusWord s
  | .sr => s.sr
  | .id => idWord
  | .cfg => cfgWord s.params

/-- `RegWrite` of a writable register (R20, R92); no other register is written (R19). -/
def regWrite (s : State) (r : Reg) (v : Word) : State :=
  match r with
  | .sCoef st k =>
    { s with staging :=
      { s.staging with coef := s.staging.coef.set st (Coefs.set (s.staging.coef.get st) k v) } }
  | .sCtrl => { s with staging := { s.staging with ctrl := v &&& ctrlMask } }
  | .sr => { s with sr := v }
  | _ => s

/-! ## Responses and errors -/

/-- Returns a response to the port that issued the command (R42). -/
def State.respond (s : State) (r : Response) : State :=
  { s with responses := (s.port, r) :: s.responses }

/-- The response 0 at a width (R107). -/
def zeroResponse : Width → Response
  | .w32 => .w32 0
  | .w64 => .w64 0

/-- `raise Err(kind)` (R7, R107): sets the sticky bit, changes nothing else, returns 0 at the command's
width. This is all the block does for an error: it has no trap entry and no return (R111). -/
def raiseErr (kind : Err) (w : Width) (s : State) : State :=
  (s.setError kind).respond (zeroResponse w)

/-- Performs a command only on the one port that may issue it, and raises `Err(PORT)` on the other
(R89, R90). -/
def onlyOn (p : Port) (w : Width) (s : State) (run : State) : Answer :=
  if s.port = p then .next run else .next (raiseErr .port w s)

/-! ## Publish, commit and reset -/

/-- `P <- S`, `DIRTY <- 1` (R94). -/
def State.publish (s : State) : State := { s with pending := s.staging, dirty := true }

/-- `Commit()` (R80, R81): both channels in one step. -/
def State.commit (s : State) : State :=
  { s with a0 := commitActive s.pending s.a0, a1 := commitActive s.pending s.a1 }

/-- Clears DIRTY and commits, the effect of FORCE and of a SYNC that finds DIRTY set (R95, R96). -/
def State.clearAndCommit (s : State) : State := ({ s with dirty := false } : State).commit

/-- The reset event on the block's own state (R119, R29). What belongs to the agents, the arbiter and the
draws, and the parameters, is not the block's to reset (log 12). -/
def State.resetBlock (s : State) : State :=
  { s with
    staging := State.reset.staging
    pending := State.reset.pending
    a0 := State.reset.a0
    a1 := State.reset.a1
    d0 := State.reset.d0
    d1 := State.reset.d1
    dirty := State.reset.dirty
    errIll := State.reset.errIll
    errPort := State.reset.errPort
    errUnmap := State.reset.errUnmap
    errRo := State.reset.errRo
    sr := State.reset.sr }

/-! ## Processing and magnitude queries -/

/-- `ChainProcess(ch, x)` on the state (R78): the output sample and the delay state it leaves. -/
def State.process (s : State) (ch : Channel) (x : Word) : ChainOut Word :=
  chainProcess s.params.form (arith32 s.params.denorm ch) (s.active ch) (s.delay ch) x (s.draws ch)

/-- A magnitude query (R84): evaluates at `f32(freq)` and `f32(SR)`, or returns the NaN where one of them
does not serve. It writes nothing but the draw counter of magnitude products (log 4). -/
def State.query (s : State) (freq : Word) (eval : DWord → DWord → Nat → DWord × Nat) : State :=
  match queryPoint freq s.sr with
  | none => s.respond (.w64 queryNaN)
  | some (f, fs) =>
    let r := eval f fs s.magDraws
    ({ s with magDraws := r.2 } : State).respond (.w64 r.1)

end Sys2Proof.Machine
end

