-- ==== Sys2Proof/Machine/MagnitudeCmds.lean ====
section
/-! DEFINITION. The meanings of the MAGQ commands (45_commands.md section 5). -/

namespace Sys2Proof.Machine

/-- MAGQ.DB (R98). -/
def execMagqDb (ch : Channel) (freq : Word) (s : State) : Answer :=
  onlyOn .cp .w64 s (s.query freq (chainDb (s.active ch)))

/-- MAGQ.LIN (R99). -/
def execMagqLin (ch : Channel) (freq : Word) (s : State) : Answer :=
  onlyOn .cp .w64 s (s.query freq (chainMag (s.active ch)))

/-- MAGQ.SEC (R100). -/
def execMagqSec (ch : Channel) (sec : Section) (freq : Word) (s : State) : Answer :=
  onlyOn .cp .w64 s (s.query freq (secMag (s.active ch) sec))

/-- MAGQ.STG (R101): the stage is evaluated whether or not it is active or bypassed. A stage the section
does not have is an illegal command (R47; log 16). -/
def execMagqStg (ch : Channel) (sec : Section) (stg : BitVec 2) (freq : Word) (s : State) : Answer :=
  match stageOf sec stg with
  | none => .next (raiseErr .ill .w64 s)
  | some st =>
    onlyOn .cp .w64 s (s.query freq (fun f fs n => (stageMag ((s.active ch).coef.get st) f fs, n)))

end Sys2Proof.Machine
end

