-- ==== Sys2Proof/Machine/ProcessCmd.lean ====
section
/-! DEFINITION. The meaning of PROC (45_commands.md section 4). -/

namespace Sys2Proof.Machine

/-- PROC's effect on the right port (R97). -/
def processSample (ch : Channel) (x : Word) (s : State) : State :=
  let r := s.process ch x
  (s.setDelay ch r.delay r.draws).respond (.w32 r.y)

/-- PROC (R97). -/
def execProc (ch : Channel) (sample : Word) (s : State) : Answer :=
  onlyOn .rp .w32 s (processSample ch sample s)

end Sys2Proof.Machine
end

