-- ==== Sys2Proof/Machine/RegisterCmds.lean ====
section
/-! DEFINITION. The meanings of NOP, WRREG, RDREG and the reserved opcodes (45_commands.md section 2, R47). -/

namespace Sys2Proof.Machine

/-- NOP (R91). -/
def execNop (s : State) : Answer := .next (s.respond (.w32 0))

/-- WRREG after the port check (R92): UNMAP before RO (R108). -/
def writeRegister (idx : RegIdx) (data : Word) (s : State) : State :=
  match regAt idx with
  | none => raiseErr .unmap .w32 s
  | some r =>
    if regWritable r then (regWrite s r data).respond (.w32 0) else raiseErr .ro .w32 s

/-- WRREG (R92). -/
def execWrreg (idx : RegIdx) (data : Word) (s : State) : Answer :=
  onlyOn .cp .w32 s (writeRegister idx data s)

/-- RDREG (R93). -/
def execRdreg (idx : RegIdx) (s : State) : Answer :=
  match regAt idx with
  | none => .next (raiseErr .unmap .w32 s)
  | some r => .next (s.respond (.w32 (regRead s r)))

/-- A transaction of a reserved opcode raises `Err(ILL)` whatever its length and its other bits
(R43, R47). -/
def execReservedOp (_op : BitVec 4) (_low : BitVec 28) (_data : Option Word) (s : State) : Answer :=
  .next (raiseErr .ill .w32 s)

end Sys2Proof.Machine
end

