-- ==== Sys2Proof/Machine/UpdateCmds.lean ====
section
/-! DEFINITION. The meanings of PUBLISH, SYNC and FORCE (45_commands.md section 3). -/

namespace Sys2Proof.Machine

/-- PUBLISH (R94). -/
def execPublish (s : State) : Answer := onlyOn .cp .w32 s (s.publish.respond (.w32 0))

/-- SYNC (R95): the test, the clear and the commit are one step. -/
def execSync (s : State) : Answer :=
  if s.dirty then .next (s.clearAndCommit.respond (.w32 1)) else .next (s.respond (.w32 0))

/-- FORCE (R96). -/
def execForce (s : State) : Answer := .next (s.clearAndCommit.respond (.w32 1))

end Sys2Proof.Machine
end

