-- ==== Sys2Proof/Machine/Dispatch.lean ====
section
/-! DEFINITION. One arm per command: `Perform` of R90. -/

namespace Sys2Proof.Machine

def exec (i : Instr) (s : State) : Host.Outcome State Fault Refusal :=
  match i with
  | .nop => Sys2Proof.Machine.execNop s
  | .wrreg idx data => Sys2Proof.Machine.execWrreg idx data s
  | .rdreg idx => Sys2Proof.Machine.execRdreg idx s
  | .publish => Sys2Proof.Machine.execPublish s
  | .sync => Sys2Proof.Machine.execSync s
  | .force => Sys2Proof.Machine.execForce s
  | .proc ch sample => Sys2Proof.Machine.execProc ch sample s
  | .magqDb ch freq => Sys2Proof.Machine.execMagqDb ch freq s
  | .magqLin ch freq => Sys2Proof.Machine.execMagqLin ch freq s
  | .magqSec ch sec freq => Sys2Proof.Machine.execMagqSec ch sec freq s
  | .magqStg ch sec stg freq => Sys2Proof.Machine.execMagqStg ch sec stg freq s
  | .reservedOp op low data => Sys2Proof.Machine.execReservedOp op low data s

end Sys2Proof.Machine
end

