-- ==== Sys2Proof/WellFormed.lean ====
section
/-! DEFINITION. Which terms of `Instr` are commands of the opcode table: the constraints on free fields
of R46 and R47 that the types do not already say. -/

namespace Sys2Proof

/-- MAGQ.STG names a stage its section has: PK has stage 0 only (R46, R47). -/
def stageFits (sec : Section) (stg : BitVec 2) : Bool :=
  match sec with
  | .lc => true
  | .pk => stg == 0
  | .hc => true

/-- OP is one of the reserved opcodes 0x8 to 0xF (R46, R47). -/
def opReserved (op : BitVec 4) : Bool := op.msb

/-- The field constraints of R46 and R47. -/
def Instr.wf : Instr → Bool
  | .nop => true
  | .wrreg _ _ => true
  | .rdreg _ => true
  | .publish => true
  | .sync => true
  | .force => true
  | .proc _ _ => true
  | .magqDb _ _ => true
  | .magqLin _ _ => true
  | .magqSec _ _ _ => true
  | .magqStg _ sec stg _ => stageFits sec stg
  | .reservedOp op _ _ => opReserved op

/-- A command the opcode table admits. -/
abbrev Instr.WellFormed (i : Instr) : Prop := i.wf = true

end Sys2Proof
end

