-- ==== Sys2Proof/Decode.lean ====
section
/-! DEFINITION. Decoding of transactions (R43 to R47) and the encoder written from the same tables. -/

namespace Sys2Proof

/-- Why a transaction of an opcode 0x0 to 0x7 is illegal (R43, R47). -/
inductive Illegal where
  /-- a reserved bit of the command word is not 0 -/
  | reservedBits
  /-- a two-word opcode without its data word -/
  | missingData
  /-- a one-word opcode with a data word -/
  | extraData
  /-- MAGQ.SEC or MAGQ.STG with SEC = 3, or MAGQ.DB or MAGQ.LIN with SEC not 0 -/
  | badSection
  /-- MAGQ.DB, MAGQ.LIN or MAGQ.SEC with STG not 0, or MAGQ.STG with SEC = 1 and STG not 0 -/
  | badStage
  deriving DecidableEq, Repr

/-! ## Fields of a command word (R44, R45) -/

/-- OP, bits 31:28. -/
def opField (w : Word) : BitVec 4 := w.extractLsb' 28 4

/-- REGIDX, bits 11:0. -/
def regField (w : Word) : RegIdx := w.extractLsb' 0 12

/-- CH of PROC, bit 0. -/
def procChField (w : Word) : BitVec 1 := w.extractLsb' 0 1

/-- CH of MAGQ, bit 6. -/
def magChField (w : Word) : BitVec 1 := w.extractLsb' 6 1

/-- STG of MAGQ, bits 5:4. -/
def stgField (w : Word) : BitVec 2 := w.extractLsb' 4 2

/-- SEC of MAGQ, bits 3:2. -/
def secField (w : Word) : BitVec 2 := w.extractLsb' 2 2

/-- MODE of MAGQ, bits 1:0. -/
def modeField (w : Word) : BitVec 2 := w.extractLsb' 0 2

/-- A channel number (R44). -/
def channelOf (b : BitVec 1) : Channel := if b = 0 then .ch0 else .ch1

/-- A channel's number (R44). -/
def channelBit : Channel → BitVec 1
  | .ch0 => 0
  | .ch1 => 1

/-- A section number; 3 names none (R44). -/
def sectionOf (b : BitVec 2) : Option Section :=
  if b = 0 then some .lc else if b = 1 then some .pk else if b = 2 then some .hc else none

/-- A section's number (R7). -/
def sectionBits : Section → BitVec 2
  | .lc => 0
  | .pk => 1
  | .hc => 2

/-! ## The decoder -/

/-- A one-word command with no operand (format N). -/
def decodeN (i : Instr) (t : Transaction) : Except Illegal Instr :=
  if t.word.extractLsb' 0 28 ≠ 0 then .error .reservedBits
  else match t.data with
    | some _ => .error .extraData
    | none => .ok i

/-- WRREG (format R with a data word). -/
def decodeWrreg (t : Transaction) : Except Illegal Instr :=
  if t.word.extractLsb' 12 16 ≠ 0 then .error .reservedBits
  else match t.data with
    | none => .error .missingData
    | some d => .ok (.wrreg (regField t.word) d)

/-- RDREG (format R without a data word). -/
def decodeRdreg (t : Transaction) : Except Illegal Instr :=
  if t.word.extractLsb' 12 16 ≠ 0 then .error .reservedBits
  else match t.data with
    | some _ => .error .extraData
    | none => .ok (.rdreg (regField t.word))

/-- PROC (format P). -/
def decodeProc (t : Transaction) : Except Illegal Instr :=
  if t.word.extractLsb' 1 27 ≠ 0 then .error .reservedBits
  else match t.data with
    | none => .error .missingData
    | some d => .ok (.proc (channelOf (procChField t.word)) d)

/-- The mode of a MAGQ word and its field constraints (format M, R46, R47). -/
def magqInstr (w : Word) (f : Word) : Except Illegal Instr :=
  let ch := channelOf (magChField w)
  if modeField w = 0 then
    if secField w ≠ 0 then .error .badSection
    else if stgField w ≠ 0 then .error .badStage
    else .ok (.magqDb ch f)
  else if modeField w = 1 then
    if secField w ≠ 0 then .error .badSection
    else if stgField w ≠ 0 then .error .badStage
    else .ok (.magqLin ch f)
  else match sectionOf (secField w) with
    | none => .error .badSection
    | some sec =>
      if modeField w = 2 then
        if stgField w ≠ 0 then .error .badStage else .ok (.magqSec ch sec f)
      else
        if stageFits sec (stgField w) then .ok (.magqStg ch sec (stgField w) f)
        else .error .badStage

/-- MAGQ (format M). -/
def decodeMagq (t : Transaction) : Except Illegal Instr :=
  if t.word.extractLsb' 7 21 ≠ 0 then .error .reservedBits
  else match t.data with
    | none => .error .missingData
    | some f => magqInstr t.word f

/-- The decoder: every transaction is a command of the opcode table or illegal for a named reason
(R43, R46, R47). -/
def decode (t : Transaction) : Except Illegal Instr :=
  match (opField t.word).toNat with
  | 0 => decodeN .nop t
  | 1 => decodeWrreg t
  | 2 => decodeRdreg t
  | 3 => decodeN .publish t
  | 4 => decodeN .sync t
  | 5 => decodeN .force t
  | 6 => decodeProc t
  | 7 => decodeMagq t
  | _ => .ok (.reservedOp (opField t.word) (t.word.extractLsb' 0 28) t.data)

/-- The width of an opcode's response, which an error response has too (R42, R107). A reserved opcode
answers 32 bits. DEDUCED (95_test_vectors.md V-E1 and P4 step 10; log 8). Unsafe. -/
def responseWidth (op : BitVec 4) : Width := if op = 7 then .w64 else .w32

/-! ## The encoder -/

/-- A format R word (R44). -/
def wordR (op : BitVec 4) (idx : RegIdx) : Word := op ++ (0 : BitVec 16) ++ idx

/-- A format P word (R44). -/
def wordP (ch : Channel) : Word := (6 : BitVec 4) ++ (0 : BitVec 27) ++ channelBit ch

/-- A format M word (R44). -/
def wordM (ch : Channel) (stg sec mode : BitVec 2) : Word :=
  (7 : BitVec 4) ++ (0 : BitVec 21) ++ channelBit ch ++ stg ++ sec ++ mode

/-- The transaction of a command (R43, R44, R46). -/
def encode : Instr → Transaction
  | .nop => ⟨0x00000000, none⟩
  | .wrreg idx data => ⟨wordR 1 idx, some data⟩
  | .rdreg idx => ⟨wordR 2 idx, none⟩
  | .publish => ⟨0x30000000, none⟩
  | .sync => ⟨0x40000000, none⟩
  | .force => ⟨0x50000000, none⟩
  | .proc ch sample => ⟨wordP ch, some sample⟩
  | .magqDb ch freq => ⟨wordM ch 0 0 0, some freq⟩
  | .magqLin ch freq => ⟨wordM ch 0 0 1, some freq⟩
  | .magqSec ch sec freq => ⟨wordM ch 0 (sectionBits sec) 2, some freq⟩
  | .magqStg ch sec stg freq => ⟨wordM ch stg (sectionBits sec) 3, some freq⟩
  | .reservedOp op low data => ⟨op ++ low, data⟩

/-! ## The host's table words -/

/-- Whether an opcode's transaction has a data word (R43). -/
def needsData (op : BitVec 4) : Bool := op == 1 || op == 6 || op == 7

/-- The transaction whose bits are `w`, the command word in bits 31:0 and the data word, if there is
one, in bits 63:32. It has a data word when its opcode needs one or when it is longer than one word;
bits above `nbits` are 0 (log 15). -/
def tableTransaction (nbits w : Nat) : Transaction :=
  let v := w % 2 ^ nbits
  let word : Word := BitVec.ofNat 32 v
  let hasData := needsData (opField word) || decide (32 < nbits)
  ⟨word, if hasData then some (BitVec.ofNat 32 (v / 2 ^ 32)) else none⟩

/-- The command the decoder reads from a table word, none where it refuses. -/
def decodeTableWord (nbits w : Nat) : Option Instr :=
  match decode (tableTransaction nbits w) with
  | .ok i => some i
  | .error _ => none

end Sys2Proof
end

