-- ==== Sys2Proof/Machine/Fetch.lean ====
section
/-! DEFINITION. How the next command comes to the block (R10, R37): the schedule's turn, the transaction
the named port has waiting, and its decoding (R90). -/

namespace Sys2Proof.Machine

/-- What a step finds to do. -/
inductive Fetched where
  /-- the named port has nothing waiting: the block holds its state (R118; log 13) -/
  | idle (s : State)
  /-- the host's reset event (R119) -/
  | reset (s : State)
  /-- a legal command, and the state it is performed in -/
  | command (i : Instr) (s : State)
  /-- an illegal transaction, the width of its response, and the state it is raised in -/
  | illegal (why : Illegal) (w : Width) (s : State)
  deriving DecidableEq, Repr

/-- The transactions a port has waiting, oldest first. -/
def State.queue (s : State) : Port → List Transaction
  | .cp => s.cpQueue
  | .rp => s.rpQueue

/-- Sets a port's waiting transactions. -/
def State.setQueue (s : State) (p : Port) (q : List Transaction) : State :=
  match p with
  | .cp => { s with cpQueue := q }
  | .rp => { s with rpQueue := q }

/-- The next turn and the state with that turn used: the schedule's first, and once the schedule is used
up, the port that has something waiting, or a free choice where both have (R37; log 2). -/
def State.takeTurn (s : State) : Turn × State :=
  match s.schedule with
  | t :: rest => (t, { s with schedule := rest })
  | [] =>
    if s.rpQueue = [] then (.serve .cp, s)
    else if s.cpQueue = [] then (.serve .rp, s)
    else (.serve (Config.arbiterChoice s.turns), { s with turns := s.turns + 1 })

/-- Decodes a transaction for a port; the port is noted for the port check and the response (R90). -/
def fetchTransaction (p : Port) (t : Transaction) (s : State) : Fetched :=
  match decode t with
  | .ok i => .command i { s with port := p }
  | .error e => .illegal e (responseWidth (opField t.word)) { s with port := p }

/-- Serves a port: its oldest waiting transaction, if it has one (R37). -/
def servePort (p : Port) (s : State) : Fetched :=
  match s.queue p with
  | [] => .idle s
  | t :: rest => fetchTransaction p t (s.setQueue p rest)

/-- What the next step does, and on which state. -/
def fetch (s : State) : Fetched :=
  match s.takeTurn with
  | (.reset, s') => .reset s'
  | (.serve p, s') => servePort p s'

/-! ## Placing a transaction -/

/-- A port that may issue an opcode (R89): RP for PROC, CP for every other one. -/
def issuingPort (op : BitVec 4) : Port := if op = 6 then .rp else .cp

/-- The state in which a port's next transaction is `t` and that port has the next turn. -/
def State.issueNext (s : State) (p : Port) (t : Transaction) : State :=
  let s' := s.setQueue p (t :: s.queue p)
  { s' with schedule := .serve p :: s.schedule }

end Sys2Proof.Machine
end

