-- ==== Sys2Proof/Machine/Step.lean ====
section
/-! DEFINITION. One step of the machine: one turn (R37), and with it one whole command (R33). -/

namespace Sys2Proof.Machine

/-- One step: the command of the next turn is performed whole (R33, R90), an illegal transaction raises
`Err(ILL)` (R47, R107), a reset event resets the block (R119), and a turn with nothing waiting
leaves the block as it is (R118). -/
def step (s : State) : Host.Outcome State Fault Refusal :=
  match fetch s with
  | .idle s' => .next s'
  | .reset s' => .next s'.resetBlock
  | .command i s' => exec i s'
  | .illegal _ w s' => .next (raiseErr .ill w s')

/-- The table word placed as the next transaction of a port that may issue it, with the next turn given
to that port (log 1, 15). -/
def State.withFetchWord (s : State) (nbits w : Nat) : State :=
  s.issueNext (issuingPort (opField (tableTransaction nbits w).word)) (tableTransaction nbits w)

end Sys2Proof.Machine
end

