-- ==== Sys2Proof/Machine/Assembler.lean ====
section
/-! DEFINITION. The text form of command sequences (R48) and the pseudo-instructions (R49): what a line
means as transactions, and how it is written. -/

namespace Sys2Proof.Machine

/-- `<value>`, `<sample>` and `<freq>` (R48): a hexadecimal word, or `f:<decimal>`, the decimal
`digits / 10^scale`. -/
inductive Value where
  | hex (w : Word)
  | dec (neg : Bool) (digits scale : Nat)
  deriving DecidableEq, Repr

/-- The 32-bit word of a value (R48). -/
def Value.word : Value → Word
  | .hex w => w
  | .dec neg digits scale => decimal32 neg digits scale

/-- `<reg>` (R48): a hexadecimal index or a symbolic name. -/
inductive RegRef where
  | index (i : RegIdx)
  | name (r : Reg)
  deriving DecidableEq, Repr

/-- The index of a register reference (R48). -/
def RegRef.idx : RegRef → RegIdx
  | .index i => i
  | .name r => regIndex r

/-- A set of sections, as `byp=<list>` and `val=<list>` name it (R49). -/
structure SectionSet where
  lc : Bool
  pk : Bool
  hc : Bool
  deriving DecidableEq, Repr

/-- A line of a command sequence: a command or RAW (R48), or a pseudo-instruction (R49). -/
inductive Line where
  | nop (p : Port)
  | wrreg (p : Port) (r : RegRef) (v : Value)
  | rdreg (p : Port) (r : RegRef)
  | publish (p : Port)
  | sync (p : Port)
  | force (p : Port)
  | proc (p : Port) (ch : Channel) (v : Value)
  | magqDb (p : Port) (ch : Channel) (f : Value)
  | magqLin (p : Port) (ch : Channel) (f : Value)
  | magqSec (p : Port) (ch : Channel) (sec : Section) (f : Value)
  | magqStg (p : Port) (ch : Channel) (sec : Section) (stg : BitVec 2) (f : Value)
  | raw (p : Port) (word : Word) (data : Option Word)
  | wrstage (st : StageId) (b0 b1 b2 a1 a2 : Value)
  | wrctrl (lc hc : BitVec 2) (byp val : SectionSet)
  | setsr (neg : Bool) (digits scale : Nat)
  | update (p : Port)
  | procf (l r : Value)
  deriving DecidableEq, Repr

/-- `(X∈list)`: 1 or 0 (R49). -/
def inList (b : Bool) : Nat := if b then 1 else 0

/-- The value WRCTRL writes to S.CTRL, as the sum of R49. -/
def wrctrlValue (lc hc : BitVec 2) (byp val : SectionSet) : Word :=
  BitVec.ofNat 32 (lc.toNat + 4 * hc.toNat + 16 * inList byp.lc + 32 * inList byp.pk + 64 * inList byp.hc
    + 256 * inList val.lc + 512 * inList val.pk + 1024 * inList val.hc)

/-- WRREG of a staged coefficient. -/
def stageWrite (st : StageId) (k : CoefIdx) (v : Value) : Port × Transaction :=
  (.cp, encode (.wrreg (regIndex (.sCoef st k)) v.word))

/-- The transactions a line stands for, in order (R48, R49). -/
def Line.expand : Line → List (Port × Transaction)
  | .nop p => [(p, encode .nop)]
  | .wrreg p r v => [(p, encode (.wrreg r.idx v.word))]
  | .rdreg p r => [(p, encode (.rdreg r.idx))]
  | .publish p => [(p, encode .publish)]
  | .sync p => [(p, encode .sync)]
  | .force p => [(p, encode .force)]
  | .proc p ch v => [(p, encode (.proc ch v.word))]
  | .magqDb p ch f => [(p, encode (.magqDb ch f.word))]
  | .magqLin p ch f => [(p, encode (.magqLin ch f.word))]
  | .magqSec p ch sec f => [(p, encode (.magqSec ch sec f.word))]
  | .magqStg p ch sec stg f => [(p, encode (.magqStg ch sec stg f.word))]
  | .raw p word data => [(p, ⟨word, data⟩)]
  | .wrstage st b0 b1 b2 a1 a2 =>
    [stageWrite st .b0 b0, stageWrite st .b1 b1, stageWrite st .b2 b2, stageWrite st .a1 a1, stageWrite st .a2 a2]
  | .wrctrl lc hc byp val => [(.cp, encode (.wrreg 0x080 (wrctrlValue lc hc byp val)))]
  | .setsr neg digits scale => [(.cp, encode (.wrreg 0x411 (decimal32 neg digits scale)))]
  | .update p => [(.cp, encode .publish), (p, encode .sync)]
  | .procf l r => [(.rp, encode (.proc .ch0 l.word)), (.rp, encode (.proc .ch1 r.word))]

/-- The agents issue transactions, and the arbiter serves them in the order given (R37): each waits
behind those its port already has, and its turn behind the turns already scheduled. -/
def State.issueAll (s : State) : List (Port × Transaction) → State
  | [] => s
  | (p, t) :: rest =>
    let s' := s.setQueue p (s.queue p ++ [t])
    ({ s' with schedule := s.schedule ++ [.serve p] } : State).issueAll rest

/-! ## The text of a line (R48, R49) -/

/-- A hexadecimal digit. -/
def hexChar (d : Nat) : Char := Char.ofNat (if d < 10 then 48 + d else 55 + d)

/-- The low `k` hexadecimal digits of a number, most significant first. -/
def hexDigits : Nat → Nat → List Char
  | 0, _ => []
  | k + 1, n => hexDigits k (n / 16) ++ [hexChar (n % 16)]

/-- `0x` and `k` hexadecimal digits. -/
def hexText (k n : Nat) : String := "0x" ++ String.ofList (hexDigits k n)

/-- The low `k` decimal digits of a number, most significant first. -/
def decDigits : Nat → Nat → List Char
  | 0, _ => []
  | k + 1, n => decDigits k (n / 10) ++ [hexChar (n % 10)]

/-- The port prefix. -/
def portText : Port → String
  | .cp => "CP: "
  | .rp => "RP: "

/-- `ch0` or `ch1`. -/
def channelText : Channel → String
  | .ch0 => "ch0"
  | .ch1 => "ch1"

/-- `LC`, `PK` or `HC`. -/
def sectionText : Section → String
  | .lc => "LC"
  | .pk => "PK"
  | .hc => "HC"

/-- `<SEC><stg>`. -/
def stageText : StageId → String
  | .lc i => "LC" ++ toString i.toNat
  | .pk => "PK0"
  | .hc i => "HC" ++ toString i.toNat

/-- `<K>`. -/
def coefText : CoefIdx → String
  | .b0 => "B0"
  | .b1 => "B1"
  | .b2 => "B2"
  | .a1 => "A1"
  | .a2 => "A2"

/-- The symbolic name of a register (R48). -/
def regText : Reg → String
  | .sCoef st k => "S." ++ stageText st ++ "." ++ coefText k
  | .sCtrl => "S.CTRL"
  | .pCoef st k => "P." ++ stageText st ++ "." ++ coefText k
  | .pCtrl => "P.CTRL"
  | .aCoef .ch0 st k => "A0." ++ stageText st ++ "." ++ coefText k
  | .aCoef .ch1 st k => "A1." ++ stageText st ++ "." ++ coefText k
  | .delay .ch0 st j => "D0." ++ stageText st ++ "." ++ toString (delayNumber j)
  | .delay .ch1 st j => "D1." ++ stageText st ++ "." ++ toString (delayNumber j)
  | .chCtrl .ch0 => "CH0.CTRL"
  | .chCtrl .ch1 => "CH1.CTRL"
  | .status => "STATUS"
  | .sr => "SR"
  | .id => "ID"
  | .cfg => "CFG"

/-- A register reference as written. -/
def RegRef.text : RegRef → String
  | .index i => hexText 3 i.toNat
  | .name r => regText r

/-- A decimal as written: sign, whole part, and a fraction of `scale` digits where `scale` is not 0. -/
def decimalText (neg : Bool) (digits scale : Nat) : String :=
  (if neg then "-" else "") ++ toString (digits / 10 ^ scale) ++
    (if scale = 0 then "" else "." ++ String.ofList (decDigits scale digits))

/-- A value as written. -/
def Value.text : Value → String
  | .hex w => hexText 8 w.toNat
  | .dec neg digits scale => "f:" ++ decimalText neg digits scale

/-- A list of sections as written: names joined by `+`, or `none`. -/
def SectionSet.text (l : SectionSet) : String :=
  let names := (if l.lc then ["LC"] else []) ++ (if l.pk then ["PK"] else []) ++ (if l.hc then ["HC"] else [])
  if names = [] then "none" else String.intercalate "+" names

/-- A line as written. -/
def Line.text : Line → String
  | .nop p => portText p ++ "NOP"
  | .wrreg p r v => portText p ++ "WRREG " ++ r.text ++ ", " ++ v.text
  | .rdreg p r => portText p ++ "RDREG " ++ r.text
  | .publish p => portText p ++ "PUBLISH"
  | .sync p => portText p ++ "SYNC"
  | .force p => portText p ++ "FORCE"
  | .proc p ch v => portText p ++ "PROC " ++ channelText ch ++ ", " ++ v.text
  | .magqDb p ch f => portText p ++ "MAGQ.DB " ++ channelText ch ++ ", " ++ f.text
  | .magqLin p ch f => portText p ++ "MAGQ.LIN " ++ channelText ch ++ ", " ++ f.text
  | .magqSec p ch sec f => portText p ++ "MAGQ.SEC " ++ channelText ch ++ ", " ++ sectionText sec ++ ", " ++ f.text
  | .magqStg p ch sec stg f =>
    portText p ++ "MAGQ.STG " ++ channelText ch ++ ", " ++ sectionText sec ++ toString stg.toNat ++ ", " ++ f.text
  | .raw p word data =>
    portText p ++ "RAW " ++ hexText 8 word.toNat ++
      (match data with
       | none => ""
       | some d => ", " ++ hexText 8 d.toNat)
  | .wrstage st b0 b1 b2 a1 a2 =>
    "CP: WRSTAGE " ++ stageText st ++ ", " ++ b0.text ++ ", " ++ b1.text ++ ", " ++ b2.text ++ ", " ++ a1.text
      ++ ", " ++ a2.text
  | .wrctrl lc hc byp val =>
    "CP: WRCTRL lc=" ++ toString lc.toNat ++ ", hc=" ++ toString hc.toNat ++ ", byp=" ++ byp.text ++ ", val="
      ++ val.text
  | .setsr neg digits scale => "CP: SETSR " ++ decimalText neg digits scale
  | .update p => portText p ++ "UPDATE"
  | .procf l r => "RP: PROCF " ++ l.text ++ ", " ++ r.text

end Sys2Proof.Machine
end

