-- ==== Sys2Proof/Machine/Transport.lean ====
section
/-! DEFINITION. A byte-serial transport of transactions and responses (R30, R31, R42). -/

namespace Sys2Proof.Machine

/-- The four bytes of a word in a byte order; little-endian puts bits 7:0 first (R30), big-endian, the
other value the model admits, bits 31:24 first (DESIGN CHOICE, log 20). -/
def wordBytes (order : ByteOrder) (w : Word) : List Byte :=
  match order with
  | .little => [w.extractLsb' 0 8, w.extractLsb' 8 8, w.extractLsb' 16 8, w.extractLsb' 24 8]
  | .big => [w.extractLsb' 24 8, w.extractLsb' 16 8, w.extractLsb' 8 8, w.extractLsb' 0 8]

/-- The word that four bytes carry (R30, R31). -/
def wordOfBytes (order : ByteOrder) (b0 b1 b2 b3 : Byte) : Word :=
  match order with
  | .little => b3 ++ b2 ++ b1 ++ b0
  | .big => b0 ++ b1 ++ b2 ++ b3

/-- The bytes of a transaction: the command word, then the data word if there is one (R42). -/
def transactionBytes (order : ByteOrder) (t : Transaction) : List Byte :=
  match t.data with
  | none => wordBytes order t.word
  | some d => wordBytes order t.word ++ wordBytes order d

/-- The transaction that a frame of bytes carries. A word is exactly four bytes (R31) and a transaction
one or two words (R42), so a frame of another length carries none. DESIGN CHOICE (log 14). Safe. -/
def transactionOfBytes (order : ByteOrder) : List Byte → Option Transaction
  | [b0, b1, b2, b3] => some ⟨wordOfBytes order b0 b1 b2 b3, none⟩
  | [b0, b1, b2, b3, c0, c1, c2, c3] =>
    some ⟨wordOfBytes order b0 b1 b2 b3, some (wordOfBytes order c0 c1 c2 c3)⟩
  | _ => none

/-- The words of a response on a 32-bit transport: a 64-bit one is carried bits 31:0 first (R30). -/
def responseWords : Response → List Word
  | .w32 v => [v]
  | .w64 v => [v.extractLsb' 0 32, v.extractLsb' 32 32]

/-- The bytes of a response on a byte-serial transport (R30). -/
def responseBytes (order : ByteOrder) (r : Response) : List Byte :=
  (responseWords r).flatMap (wordBytes order)

/-- A transport delivers a frame of bytes to a port, in the block's BUS_BYTE_ORDER: the transaction waits
behind those the port already has (R37, R42). -/
def State.deliver (s : State) (p : Port) (frame : List Byte) : Option State :=
  match transactionOfBytes s.params.order frame with
  | none => none
  | some t => some (s.setQueue p (s.queue p ++ [t]))

end Sys2Proof.Machine
end

