-- ==== Sys2Proof/Safety.lean ====
section
/-! DEFINITION. The terms claims are made in: the invariant, the tables of the spec that the meanings do
not use as tables (ports, opcode rows), the stages a sample runs through, exact values of bit
patterns, and the outputs of a stage as a sequence. -/

namespace Sys2Proof.Machine

/-! ## The invariant -/

/-- The four legal patterns of active flags (R17). -/
def flagsArePrefix (act : Bank Bool) : Bool :=
  decide (act = activeFlags 0) || decide (act = activeFlags 1) || decide (act = activeFlags 2) ||
    decide (act = activeFlags 3)

/-- The active flags of both banks of both channels are prefixes (R17). -/
abbrev State.FlagsLegal (s : State) : Prop :=
  (flagsArePrefix s.a0.actLc && flagsArePrefix s.a0.actHc && flagsArePrefix s.a1.actLc &&
    flagsArePrefix s.a1.actHc) = true

/-- Both channels hold the same active set (R16). -/
abbrev State.ChannelsAgree (s : State) : Prop := s.a0 = s.a1

/-- The reserved bits of S.CTRL and P.CTRL are 0 (R20). -/
abbrev State.ReservedBitsZero (s : State) : Prop :=
  s.staging.ctrl &&& ~~~ctrlMask = 0 ∧ s.pending.ctrl &&& ~~~ctrlMask = 0

/-- While DIRTY is 0 the pending buffer is already committed (R96). -/
abbrev State.CleanMeansCommitted (s : State) : Prop := s.dirty = false → s.commit = s

/-- The invariant of the block. -/
abbrev State.Inv (s : State) : Prop :=
  s.FlagsLegal ∧ s.ChannelsAgree ∧ s.ReservedBitsZero ∧ s.CleanMeansCommitted

/-! ## Ports and errors -/

/-- The port table (R89). A reserved opcode is no command; its transaction is illegal on both ports (R90). -/
def mayIssue : Instr → Port → Bool
  | .nop, _ => true
  | .wrreg _ _, p => decide (p = .cp)
  | .rdreg _, _ => true
  | .publish, p => decide (p = .cp)
  | .sync, _ => true
  | .force, _ => true
  | .proc _ _, p => decide (p = .rp)
  | .magqDb _ _, p => decide (p = .cp)
  | .magqLin _ _, p => decide (p = .cp)
  | .magqSec _ _ _, p => decide (p = .cp)
  | .magqStg _ _ _ _, p => decide (p = .cp)
  | .reservedOp _ _ _, _ => true

/-- The four error bits, in the order of R22. -/
def State.errorBits (s : State) : List Bool := [s.errIll, s.errPort, s.errUnmap, s.errRo]

/-! ## The opcode table (R46) -/

/-- A row of the table: match, mask, whether a data word belongs to it, and its free-field constraint. -/
structure OpcodeRow where
  value : Word
  mask : Word
  words : Nat
  constraint : Word → Bool

/-- SEC ≠ 3 (R46). -/
def secIsNamed (w : Word) : Bool := secField w != 3

/-- SEC ≠ 3, and STG = 0 when SEC = 1 (R46). -/
def stageIsNamed (w : Word) : Bool := secField w != 3 && (secField w != 1 || stgField w == 0)

/-- The rows of the eleven commands. -/
def opcodeRows : List OpcodeRow :=
  [⟨0x00000000, 0xFFFFFFFF, 1, fun _ => true⟩, ⟨0x10000000, 0xFFFFF000, 2, fun _ => true⟩,
   ⟨0x20000000, 0xFFFFF000, 1, fun _ => true⟩, ⟨0x30000000, 0xFFFFFFFF, 1, fun _ => true⟩,
   ⟨0x40000000, 0xFFFFFFFF, 1, fun _ => true⟩, ⟨0x50000000, 0xFFFFFFFF, 1, fun _ => true⟩,
   ⟨0x60000000, 0xFFFFFFFE, 2, fun _ => true⟩, ⟨0x70000000, 0xFFFFFFBF, 2, fun _ => true⟩,
   ⟨0x70000001, 0xFFFFFFBF, 2, fun _ => true⟩, ⟨0x70000002, 0xFFFFFFB3, 2, secIsNamed⟩,
   ⟨0x70000003, 0xFFFFFF83, 2, stageIsNamed⟩]

/-- A word spells a row's command (R46). -/
def OpcodeRow.spells (r : OpcodeRow) (w : Word) : Prop := w &&& r.mask = r.value ∧ r.constraint w = true

/-- `Legal` (R90): the word matches a row with its constraints, and the data word is present exactly when
that row needs one. -/
def legalTransaction (t : Transaction) : Prop :=
  ∃ r ∈ opcodeRows, r.spells t.word ∧ (t.data.isSome = true ↔ r.words = 2)

/-! ## The stages a sample runs through -/

/-- The stages in chain order: LC 0 to 3, PK, HC 0 to 3 (R73, R77). -/
def chainOrder : List StageId := [.lc 0, .lc 1, .lc 2, .lc 3, .pk, .hc 0, .hc 1, .hc 2, .hc 3]

/-- Whether a stage takes part in processing: it is active and its section is not bypassed (R73, R78). -/
def runs (a : ActiveSet) : StageId → Bool
  | .lc i => !a.byp.lc && a.actLc.get i
  | .pk => !a.byp.pk
  | .hc i => !a.byp.hc && a.actHc.get i

/-- One stage of the sequence: a stage that runs processes the sample and keeps its new delay state. -/
def runStage (form : StageForm) (ar : Arith Word) (a : ActiveSet) (o : ChainOut Word) (st : StageId) :
    ChainOut Word :=
  if runs a st then
    let r := stageProcess form ar (a.coef.get st) (o.delay.get st) o.y o.draws
    ⟨r.y, o.delay.set st r.delay, r.draws⟩
  else o

/-! ## Exact values -/

/-- The value of a pattern's bits, sign apart, in units, in a format with `fb` fraction bits and no upper
limit on the exponent. -/
def unitsOf (fb bits : Nat) : Nat :=
  if bits / 2 ^ fb = 0 then bits % 2 ^ fb else (2 ^ fb + bits % 2 ^ fb) * 2 ^ (bits / 2 ^ fb - 1)

/-- A magnitude with a sign. -/
def signed (neg : Bool) (n : Nat) : ℤ := if neg then -n else n

/-- The value of a finite binary32 pattern as an operand, in units of 2^-149: under FTZ_DAZ a subnormal is
read as a zero (R59). -/
def value32 (mode : DenormMode) (w : Word) : ℤ :=
  if mode = .ftzDaz ∧ absBits32 w < 2 ^ 23 then 0 else signed w.msb (unitsOf 23 (absBits32 w))

/-- The value of a finite binary64 pattern, in units of 2^-1074. -/
def value64 (w : DWord) : ℤ := signed w.msb (unitsOf 52 (absBits64 w))

/-- A result pattern of binary32: the sign, and the rounded number (R59), where overflow gives the infinity
and FTZ_DAZ replaces a subnormal by a zero. The exact result is `n · 2^-x` units apart from its sign. -/
def isResult32 (mode : DenormMode) (neg : Bool) (n x : Nat) (r : Word) : Prop :=
  r.msb = neg ∧
    absBits32 r =
      if 0x7F800000 ≤ roundBits 23 n x then 0x7F800000
      else if mode = .ftzDaz ∧ roundBits 23 n x < 2 ^ 23 then 0
      else roundBits 23 n x

/-- A result pattern of binary64 (R8): as in binary32, without DENORM_MODE (log 7). -/
def isResult64 (neg : Bool) (n x : Nat) (r : DWord) : Prop :=
  r.msb = neg ∧
    absBits64 r =
      if 0x7FF0000000000000 ≤ roundBits 52 n x then 0x7FF0000000000000 else roundBits 52 n x

/-- A binary32 pattern that is a NaN. -/
def isNaN32 (w : Word) : Bool := decide (0x7F800000 < absBits32 w)

/-- A binary32 pattern that is a finite number. -/
def isFinite32 (w : Word) : Bool := decide (absBits32 w < 0x7F800000)

/-- A binary64 pattern that is a finite number. -/
def isFinite64 (w : DWord) : Bool := decide (absBits64 w < 0x7FF0000000000000)

/-- A binary64 pattern that is a NaN. -/
def isNaN64 (w : DWord) : Bool := decide (0x7FF0000000000000 < absBits64 w)

/-- A stage's delay state holds a NaN where its form lets one spread: either register in DF2, d0 in TDF2
(R64 case 2, R125; log 18). -/
def poisoned (form : StageForm) (d : Delay Word) : Bool :=
  match form with
  | .df2 => isNaN32 d.d0 || isNaN32 d.d1
  | .tdf2 => isNaN32 d.d0

/-- A stage's delay state holds a NaN or an infinity where the next output reads it (R125; log 18). -/
def nonFiniteState (form : StageForm) (d : Delay Word) : Bool :=
  match form with
  | .df2 => !isFinite32 d.d0 || !isFinite32 d.d1
  | .tdf2 => !isFinite32 d.d0

/-- A delay state that an identity stage leaves without effect: finite in DF2, zeros in TDF2. -/
def restfulStage (form : StageForm) (d : Delay Word) : Bool :=
  match form with
  | .df2 => isFinite32 d.d0 && isFinite32 d.d1
  | .tdf2 => isZero32 d.d0 && isZero32 d.d1

/-- Every stage of a channel has such a delay state. -/
def restful (form : StageForm) (d : Chain (Delay Word)) : Prop := ∀ st, restfulStage form (d.get st) = true

/-- A pattern that DENORM_MODE leaves alone: any under IEEE, any but a subnormal under FTZ_DAZ (R59). -/
def leftAlone (mode : DenormMode) (w : Word) : Bool :=
  match mode with
  | .ieee => true
  | .ftzDaz => isZero32 w || decide (2 ^ 23 ≤ absBits32 w)

/-- A sample outside the exceptions of R29: finite, not −0, and not subnormal under FTZ_DAZ. -/
def plainSample (mode : DenormMode) (w : Word) : Bool :=
  isFinite32 w && decide (w ≠ 0x80000000) && leftAlone mode w

/-! ## Sequences -/

/-- The entry `k` places before place `n` of a sequence, 0 before its start. -/
def before (xs : List ℚ) (n k : Nat) : ℚ := if n < k then 0 else xs.getD (n - k) 0

/-- The outputs of one stage in exact arithmetic from zero delay state (R60). -/
def exactOutputs (form : StageForm) (c : Coefs ℚ) (xs : List ℚ) : List ℚ :=
  stageOutputs form arithExact c ⟨0, 0⟩ xs 0

end Sys2Proof.Machine
end

