-- ==== Sys2Proof/Certificates/Slice0/Obligations.lean ====
section
/-! DEFINITION. The statements for the provers. -/

open Sys2Proof Sys2Proof.Machine

/-! ## Encoding -/

/-- R43, R44, R46: decoding the transaction of a well-formed command gives the command back. -/
def Obligations.DecodeOfEncode : Prop :=
  ∀ i : Instr, i.WellFormed → decode (encode i) = .ok i

/-- R43 to R47: a transaction that decodes is the transaction of the command it decodes to, bit for bit,
and that command is well formed. -/
def Obligations.EncodeOfDecode : Prop :=
  ∀ (t : Transaction) (i : Instr), decode t = .ok i → encode i = t ∧ i.WellFormed

/-- R46, R90: the decoder reads a command from exactly the transactions the opcode table admits, and
reads a reserved opcode from exactly the words whose bit 31 is set. -/
def Obligations.DecoderFollowsOpcodeTable : Prop :=
  (∀ t : Transaction, legalTransaction t ↔ t.word.msb = false ∧ ∃ i, decode t = .ok i) ∧
  (∀ t : Transaction, t.word.msb = true ↔ ∃ op low data, decode t = .ok (.reservedOp op low data))

/-- R46: no word matches two rows of the opcode table. -/
def Obligations.OpcodeRowsAreDisjoint : Prop :=
  opcodeRows.Pairwise (fun a b => ∀ w : Word, ¬ (a.spells w ∧ b.spells w))

/-- R19: each register has its own index, and the map from indices to registers inverts it. -/
def Obligations.RegisterMapIsBijective : Prop :=
  (∀ r : Reg, regAt (regIndex r) = some r) ∧ (∀ i r, regAt i = some r → regIndex r = i)

/-- R44 to R46, with words written out from the spec: the examples of R91 to R101, PROC and MAGQ.SEC on
channel 1 (95_test_vectors.md P1 step 12, P5 step 20), and three rows of V-E1, two illegal fields and a
reserved opcode. -/
def Obligations.SpecWordsDecode : Prop :=
  decode ⟨0x00000000, none⟩ = .ok .nop ∧
  decode ⟨0x10000020, some 0x40000000⟩ = .ok (.wrreg 0x020 0x40000000) ∧
  decode ⟨0x20000400, none⟩ = .ok (.rdreg 0x400) ∧
  decode ⟨0x30000000, none⟩ = .ok .publish ∧
  decode ⟨0x40000000, none⟩ = .ok .sync ∧
  decode ⟨0x50000000, none⟩ = .ok .force ∧
  decode ⟨0x60000000, some 0x3FC00000⟩ = .ok (.proc .ch0 0x3FC00000) ∧
  decode ⟨0x60000001, some 0xBE800000⟩ = .ok (.proc .ch1 0xBE800000) ∧
  decode ⟨0x70000000, some 0x447A0000⟩ = .ok (.magqDb .ch0 0x447A0000) ∧
  decode ⟨0x70000041, some 0x42480000⟩ = .ok (.magqLin .ch1 0x42480000) ∧
  decode ⟨0x70000002, some 0x42C80000⟩ = .ok (.magqSec .ch0 .lc 0x42C80000) ∧
  decode ⟨0x70000042, some 0x43DC0000⟩ = .ok (.magqSec .ch1 .lc 0x43DC0000) ∧
  decode ⟨0x7000003B, some 0x447A0000⟩ = .ok (.magqStg .ch0 .hc 3 0x447A0000) ∧
  decode ⟨0x60000002, some 0x3F800000⟩ = .error .reservedBits ∧
  decode ⟨0x7000000E, some 0x447A0000⟩ = .error .badSection ∧
  decode ⟨0x90000000, none⟩ = .ok (.reservedOp 9 0x0000000 none)

/-! ## Steps -/

/-- A step runs the decoded command: when the next turn serves port `p`, its oldest waiting transaction
is `t`, and `t` decodes to `i`, the step is `exec i` on the state with that turn and transaction taken
and `p` noted as the issuing port (R37, R90). -/
def Obligations.StepRunsDecodedCommand : Prop :=
  ∀ (s s' : State) (p : Port) (t : Transaction) (rest : List Transaction) (i : Instr),
    s.takeTurn = (.serve p, s') → s'.queue p = t :: rest → decode t = .ok i →
      step s = exec i { s'.setQueue p rest with port := p }

/-- R90: an illegal transaction raises `Err(ILL)`; a legal one on a port that may not issue it raises
`Err(PORT)`; any other is performed. The error responses are 0 and, where the opcode is not a reserved
one, have the opcode's width. -/
def Obligations.ExecuteChecksLegalityThenPort : Prop :=
  ∀ (s s' : State) (p : Port) (t : Transaction) (rest : List Transaction),
    s.takeTurn = (.serve p, s') → s'.queue p = t :: rest →
      (¬ legalTransaction t →
        ∃ r, (r = .w32 0 ∨ r = .w64 0) ∧
          (t.word.msb = false → r = if opField t.word = 7 then .w64 0 else .w32 0) ∧
          step s = .next { s'.setQueue p rest with
            port := p
            errIll := true
            responses := (p, r) :: s'.responses }) ∧
      (∀ i, legalTransaction t → decode t = .ok i → mayIssue i p = false →
        step s = .next { s'.setQueue p rest with
          port := p
          errPort := true
          responses := (p, if opField t.word = 7 then .w64 0 else .w32 0) :: s'.responses }) ∧
      (∀ i, legalTransaction t → decode t = .ok i → mayIssue i p = true →
        step s = exec i { s'.setQueue p rest with port := p })

/-- R111 and 93_implementation_defined.md: the block has no condition that stops it. -/
def Obligations.EveryStepAnswersNext : Prop :=
  (∀ s : State, ∃ t, step s = .next t) ∧ (∀ (i : Instr) (s : State), ∃ t, exec i s = .next t)

/-- R37, R42: a step takes at most the oldest transaction of one port, and returns exactly one response,
to that port, when it takes one. That a reset turn keeps the waiting transactions and the responses (first
alternative) is the model's choice (log 12), as is an idle turn (log 13). -/
def Obligations.StepServesOnePortInIssueOrder : Prop :=
  ∀ s t : State, step s = .next t →
    (t.cpQueue = s.cpQueue ∧ t.rpQueue = s.rpQueue ∧ t.responses = s.responses) ∨
    (∃ x r, s.cpQueue = x :: t.cpQueue ∧ t.rpQueue = s.rpQueue ∧ t.responses = (.cp, r) :: s.responses) ∨
    (∃ x r, t.cpQueue = s.cpQueue ∧ s.rpQueue = x :: t.rpQueue ∧ t.responses = (.rp, r) :: s.responses)

/-- R118 (log 13): with no turn and no transaction waiting, and at a turn of a port that has nothing
waiting, the block holds its state. -/
def Obligations.IdleTurnHoldsTheBlock : Prop :=
  (∀ s : State, s.schedule = [] → s.cpQueue = [] → s.rpQueue = [] → step s = .next s) ∧
  (∀ (s : State) (p : Port) (rest : List Turn), s.schedule = .serve p :: rest → s.queue p = [] →
    step s = .next { s with schedule := rest })

/-- R119 (log 12): the reset event puts every element of the block's state at its reset value and leaves
the parameters and the agents' fields. -/
def Obligations.ResetEventRestoresResetState : Prop :=
  ∀ (s : State) (rest : List Turn), s.schedule = .reset :: rest →
    step s = .next { State.reset with
      params := s.params
      port := s.port
      cpQueue := s.cpQueue
      rpQueue := s.rpQueue
      schedule := rest
      turns := s.turns
      responses := s.responses
      draws0 := s.draws0
      draws1 := s.draws1
      magDraws := s.magDraws }

/-- R19, R29: what every register reads after reset with the default parameters. -/
def Obligations.ResetRegisterValues : Prop :=
  (∀ st k, regRead State.reset (.sCoef st k) = if k = .b0 then 0x3F800000 else 0) ∧
  (∀ st k, regRead State.reset (.pCoef st k) = if k = .b0 then 0x3F800000 else 0) ∧
  (∀ ch st k, regRead State.reset (.aCoef ch st k) = if k = .b0 then 0x3F800000 else 0) ∧
  (∀ ch st j, regRead State.reset (.delay ch st j) = 0) ∧
  (∀ ch, regRead State.reset (.chCtrl ch) = 0x00000011) ∧
  regRead State.reset .sCtrl = 0 ∧ regRead State.reset .pCtrl = 0 ∧ regRead State.reset .status = 0 ∧
  regRead State.reset .sr = 0x473B8000 ∧ regRead State.reset .id = 0x53455131 ∧
  regRead State.reset .cfg = 0x00000240

/-! ## Invariants -/

/-- R29: the invariant holds after reset. -/
def Obligations.InvariantHoldsAtReset : Prop := State.reset.Inv

/-- R16, R17, R20, R96: every step keeps the invariant: legal active flags, equal active sets of the two
channels, reserved control bits 0, and a pending buffer already committed while DIRTY is 0. -/
def Obligations.StepKeepsInvariant : Prop := ∀ s t : State, s.Inv → step s = .next t → t.Inv

/-- R22, R107: a set error bit stays set by every step that is not the reset event. -/
def Obligations.ErrorBitsAreSticky : Prop :=
  ∀ s t : State, s.schedule.head? ≠ some .reset → step s = .next t →
    (s.errIll = true → t.errIll = true) ∧ (s.errPort = true → t.errPort = true) ∧
    (s.errUnmap = true → t.errUnmap = true) ∧ (s.errRo = true → t.errRo = true)

/-- R10: the configuration is no state of the block: no step changes it. -/
def Obligations.StepKeepsParameters : Prop := ∀ s t : State, step s = .next t → t.params = s.params

/-- R11, R105, R119: among the commands only PROC writes delay state. -/
def Obligations.OnlyProcWritesDelayState : Prop :=
  ∀ (i : Instr) (s t : State), exec i s = .next t → (∀ ch x, i ≠ .proc ch x) → t.d0 = s.d0 ∧ t.d1 = s.d1

/-- R14: only WRREG writes S and SR, only PUBLISH writes P, and only a commit writes the active sets. -/
def Obligations.BuffersHaveOneWriterEach : Prop :=
  ∀ (i : Instr) (s t : State), exec i s = .next t →
    ((∀ idx data, i ≠ .wrreg idx data) → t.staging = s.staging ∧ t.sr = s.sr) ∧
    (i ≠ .publish → t.pending = s.pending) ∧
    (i ≠ .sync → i ≠ .force → t.a0 = s.a0 ∧ t.a1 = s.a1)

/-- R107, R108: a command that changes an error bit sets exactly one, changes nothing else, and returns
0 to its port. -/
def Obligations.ErrorChangesOnlyItsBit : Prop :=
  ∀ (i : Instr) (s t : State), exec i s = .next t → t.errorBits ≠ s.errorBits →
    ∃ (kind : Err) (r : Response), (r = .w32 0 ∨ r = .w64 0) ∧
      t = { s.setError kind with responses := (s.port, r) :: s.responses }

/-! ## Ports -/

/-- R89: a command on a port that may not issue it raises `Err(PORT)` and does nothing else; on a port
that may, it does not touch that bit. -/
def Obligations.PortTableIsEnforced : Prop :=
  ∀ (i : Instr) (s : State), i.WellFormed →
    (mayIssue i s.port = false →
      exec i s = .next { s with
        errPort := true
        responses := (s.port, if opField (encode i).word = 7 then .w64 0 else .w32 0) :: s.responses }) ∧
    (∀ t, mayIssue i s.port = true → exec i s = .next t → t.errPort = s.errPort)

/-- R43, R47: a reserved opcode raises `Err(ILL)`, whatever its length and its other bits, on either port.
That its response has 32 bits is the model's reading (log 8). -/
def Obligations.ReservedOpcodeRaisesIll : Prop :=
  ∀ (op : BitVec 4) (low : BitVec 28) (data : Option Word) (s : State),
    exec (.reservedOp op low data) s =
      .next { s with errIll := true, responses := (s.port, .w32 0) :: s.responses }

/-! ## Register commands -/

/-- R91: NOP returns 0 and changes nothing, on either port. -/
def Obligations.NopReturnsZero : Prop :=
  ∀ s : State, exec .nop s = .next { s with responses := (s.port, .w32 0) :: s.responses }

/-- R92, R20: WRREG of a writable register on CP stores the data there, S.CTRL without its reserved bits,
returns 0 and leaves every other register and everything else as it was. -/
def Obligations.WriteRegisterStoresAndFrames : Prop :=
  ∀ (s : State) (idx : RegIdx) (r : Reg) (data : Word), s.port = .cp → regAt idx = some r →
    ((∃ st k, r = .sCoef st k) ∨ r = .sCtrl ∨ r = .sr) →
      ∃ t, exec (.wrreg idx data) s = .next t ∧
        regRead t r = (if r = .sCtrl then data &&& 0x0000077F else data) ∧
        (∀ r', r' ≠ r → regRead t r' = regRead s r') ∧
        t = { s with staging := t.staging, sr := t.sr, responses := (.cp, .w32 0) :: s.responses }

/-- R92, R108: WRREG on RP raises PORT; on CP an unmapped index raises UNMAP and a register that is none of
S.C, S.CTRL and SR raises RO; nothing else changes. -/
def Obligations.WriteRegisterErrors : Prop :=
  ∀ (s : State) (idx : RegIdx) (data : Word),
    (s.port = .rp → exec (.wrreg idx data) s =
      .next { s with errPort := true, responses := (.rp, .w32 0) :: s.responses }) ∧
    (s.port = .cp → regAt idx = none → exec (.wrreg idx data) s =
      .next { s with errUnmap := true, responses := (.cp, .w32 0) :: s.responses }) ∧
    (∀ r, s.port = .cp → regAt idx = some r → (∀ st k, r ≠ .sCoef st k) → r ≠ .sCtrl → r ≠ .sr →
      exec (.wrreg idx data) s =
        .next { s with errRo := true, responses := (.cp, .w32 0) :: s.responses })

/-- R93, R34: RDREG returns the register and changes nothing, on either port; an unmapped index raises
UNMAP. -/
def Obligations.ReadRegisterReturnsItOnly : Prop :=
  ∀ (s : State) (idx : RegIdx),
    (∀ r, regAt idx = some r → exec (.rdreg idx) s =
      .next { s with responses := (s.port, .w32 (regRead s r)) :: s.responses }) ∧
    (regAt idx = none → exec (.rdreg idx) s =
      .next { s with errUnmap := true, responses := (s.port, .w32 0) :: s.responses })

/-- R24: ID is read-only and always reads 0x53455131. -/
def Obligations.IdReadsItsConstant : Prop :=
  (∀ s : State, exec (.rdreg 0x412) s =
    .next { s with responses := (s.port, .w32 0x53455131) :: s.responses }) ∧
  (∀ (s : State) (data : Word), s.port = .cp → exec (.wrreg 0x412 data) s =
    .next { s with errRo := true, responses := (.cp, .w32 0) :: s.responses })

/-- R25: CFG is read-only and reports the parameters in its fields. -/
def Obligations.CfgReportsParameters : Prop :=
  (∀ s : State, ∃ c : Word,
    exec (.rdreg 0x413) s = .next { s with responses := (s.port, .w32 c) :: s.responses } ∧
    c.getLsbD 0 = decide (s.params.form = .tdf2) ∧ c.getLsbD 1 = decide (s.params.denorm = .ftzDaz) ∧
    c.extractLsb' 2 2 = 0 ∧ c.extractLsb' 4 4 = 4 ∧ c.extractLsb' 8 4 = 2 ∧ c.extractLsb' 12 20 = 0 ∧
    (s.params = Params.default → c = 0x00000240)) ∧
  (∀ (s : State) (data : Word), s.port = .cp → exec (.wrreg 0x413 data) s =
    .next { s with errRo := true, responses := (.cp, .w32 0) :: s.responses })

/-- R22, R21: each bit of STATUS and of CHn.CTRL. -/
def Obligations.StatusAndChannelControlBits : Prop :=
  (∀ (s : State) (i : Nat),
    (regRead s .status).getLsbD i =
      if i = 0 then s.dirty else if i = 8 then s.errIll else if i = 9 then s.errPort
      else if i = 10 then s.errUnmap else if i = 11 then s.errRo else false) ∧
  (∀ (s : State) (ch : Channel) (i : Nat),
    (regRead s (.chCtrl ch)).getLsbD i =
      if i < 4 then (s.active ch).actLc.get (BitVec.ofNat 2 i)
      else if i < 8 then (s.active ch).actHc.get (BitVec.ofNat 2 (i - 4))
      else if i = 8 then (s.active ch).byp.lc else if i = 9 then (s.active ch).byp.pk
      else if i = 10 then (s.active ch).byp.hc else false)

/-! ## Update commands -/

/-- R94: PUBLISH on CP copies S into P, sets DIRTY, returns 0, and changes nothing else. -/
def Obligations.PublishCopiesStagingToPending : Prop :=
  ∀ s : State, s.port = .cp →
    exec .publish s = .next { s with
      pending := s.staging
      dirty := true
      responses := (.cp, .w32 0) :: s.responses }

/-- R95: SYNC with DIRTY set clears it and commits, returning 1; with DIRTY clear it returns 0 and changes
nothing; and so a second SYNC in a row returns 0 and changes nothing. -/
def Obligations.SyncTestsAndClearsDirty : Prop :=
  (∀ s : State, s.dirty = true →
    exec .sync s = .next { s with
      dirty := false
      a0 := commitActive s.pending s.a0
      a1 := commitActive s.pending s.a1
      responses := (s.port, .w32 1) :: s.responses }) ∧
  (∀ s : State, s.dirty = false →
    exec .sync s = .next { s with responses := (s.port, .w32 0) :: s.responses }) ∧
  (∀ s t : State, exec .sync s = .next t →
    exec .sync t = .next { t with responses := (t.port, .w32 0) :: t.responses })

/-- R96: FORCE clears DIRTY and commits whatever DIRTY was, returning 1. -/
def Obligations.ForceCommitsAlways : Prop :=
  ∀ s : State, exec .force s = .next { s with
    dirty := false
    a0 := commitActive s.pending s.a0
    a1 := commitActive s.pending s.a1
    responses := (s.port, .w32 1) :: s.responses }

/-- R83, R96: where the pending buffer is already committed while DIRTY is 0 (an invariant,
StepKeepsInvariant), SYNC and FORCE leave the same state but for the response. -/
def Obligations.SyncAndForceLeaveTheSameState : Prop :=
  ∀ s t u : State, s.CleanMeansCommitted → exec .sync s = .next t → exec .force s = .next u →
    { t with responses := [] } = { u with responses := [] }

/-- R80: a second commit of the same P changes nothing. -/
def Obligations.CommitIsIdempotent : Prop := ∀ s : State, s.commit.commit = s.commit

/-- R80, R71, R70, R81: what a commit leaves in each channel: a section with VAL set takes the pending
coefficients of stages 0 to ORD and that many active flags, other stages and sections keep theirs, the
bypass flags are P's, and nothing else changes. The fields of P.CTRL are read here as numbers. -/
def Obligations.CommitAppliesPendingSections : Prop :=
  ∀ (s : State) (ch : Channel),
    (∀ i : BitVec 2, (s.commit.active ch).coef.get (.lc i) =
      if s.pending.ctrl.toNat / 256 % 2 = 1 ∧ i.toNat ≤ s.pending.ctrl.toNat % 4
      then s.pending.coef.get (.lc i) else (s.active ch).coef.get (.lc i)) ∧
    ((s.commit.active ch).coef.pk =
      if s.pending.ctrl.toNat / 512 % 2 = 1 then s.pending.coef.pk else (s.active ch).coef.pk) ∧
    (∀ i : BitVec 2, (s.commit.active ch).coef.get (.hc i) =
      if s.pending.ctrl.toNat / 1024 % 2 = 1 ∧ i.toNat ≤ s.pending.ctrl.toNat / 4 % 4
      then s.pending.coef.get (.hc i) else (s.active ch).coef.get (.hc i)) ∧
    (∀ i : BitVec 2, (s.commit.active ch).actLc.get i =
      if s.pending.ctrl.toNat / 256 % 2 = 1 then decide (i.toNat ≤ s.pending.ctrl.toNat % 4)
      else (s.active ch).actLc.get i) ∧
    (∀ i : BitVec 2, (s.commit.active ch).actHc.get i =
      if s.pending.ctrl.toNat / 1024 % 2 = 1 then decide (i.toNat ≤ s.pending.ctrl.toNat / 4 % 4)
      else (s.active ch).actHc.get i) ∧
    (s.commit.active ch).byp =
      ⟨decide (s.pending.ctrl.toNat / 16 % 2 = 1), decide (s.pending.ctrl.toNat / 32 % 2 = 1),
       decide (s.pending.ctrl.toNat / 64 % 2 = 1)⟩ ∧
    s.commit = { s with a0 := s.commit.a0, a1 := s.commit.a1 }

/-- R39, R124: a snapshot that another PUBLISH supersedes before a commit leaves no trace but its
response. -/
def Obligations.SupersededSnapshotLeavesNoTrace : Prop :=
  ∀ (s t u v : State) (b : Buffer), s.port = .cp → exec .publish s = .next t →
    exec .publish { t with staging := b } = .next u → exec .publish { s with staging := b } = .next v →
      { u with responses := [] } = { v with responses := [] }

/-- R122, R38: a WRREG changes nothing that processing or, unless it writes SR, a magnitude query reads:
the active sets and the delay state stay, processing gives the same, and every magnitude command
answers after it what it answers before it. That drawn NaNs are the same too, bit for bit, is the
model's choice of counters that a WRREG leaves alone (log 4); the spec fixes NaNs as a class only (U1). -/
def Obligations.StagedWriteIsInvisible : Prop :=
  ∀ (s t : State) (idx : RegIdx) (data : Word), exec (.wrreg idx data) s = .next t →
    (∀ ch, t.active ch = s.active ch ∧ t.delay ch = s.delay ch) ∧
    (∀ ch x, t.process ch x = s.process ch x) ∧
    (idx ≠ 0x411 → ∀ (ch : Channel) (sec : Section) (stg : BitVec 2) (freq : Word) (u v : State),
      ∀ i ∈ [Instr.magqDb ch freq, .magqLin ch freq, .magqSec ch sec freq, .magqStg ch sec stg freq],
        exec i t = .next u → exec i s = .next v → u.responses.head? = v.responses.head?)

/-! ## Processing -/

/-- R97: PROC on RP returns the chain's output, writes only the named channel's delay state (and the
model's draw counter of that channel, log 4), and never raises an error. -/
def Obligations.ProcRunsTheChain : Prop :=
  ∀ (s : State) (x : Word), s.port = .rp →
    (exec (.proc .ch0 x) s =
      let r := chainProcess s.params.form (arith32 s.params.denorm .ch0) s.a0 s.d0 x s.draws0
      .next { s with d0 := r.delay, draws0 := r.draws, responses := (.rp, .w32 r.y) :: s.responses }) ∧
    (exec (.proc .ch1 x) s =
      let r := chainProcess s.params.form (arith32 s.params.denorm .ch1) s.a1 s.d1 x s.draws1
      .next { s with d1 := r.delay, draws1 := r.draws, responses := (.rp, .w32 r.y) :: s.responses })

/-- R78: with all three sections bypassed the output is the input, bit for bit, and no state changes. -/
def Obligations.BypassedChainPassesBits : Prop :=
  ∀ (s : State) (ch : Channel) (x : Word), s.port = .rp → (s.active ch).byp = ⟨true, true, true⟩ →
    exec (.proc ch x) s = .next { s with responses := (.rp, .w32 x) :: s.responses }

/-- R73, R77, R78: the chain is the sequence of the stages that run, in chain order. The draw counter runs through the
stages in the same order, which is the model's choice (log 4). -/
def Obligations.ChainIsStagesInOrder : Prop :=
  ∀ (form : StageForm) (ar : Arith Word) (a : ActiveSet) (d : Chain (Delay Word)) (x : Word) (n : Nat),
    chainProcess form ar a d x n = chainOrder.foldl (runStage form ar a) ⟨x, d, n⟩

/-- R74, R79, R82: PROC keeps the delay state of every stage that does not run, and all of the other
channel's. -/
def Obligations.FrozenStagesKeepDelayState : Prop :=
  ∀ (s t : State) (ch : Channel) (x : Word), exec (.proc ch x) s = .next t →
    (∀ st, runs (s.active ch) st = false → (t.delay ch).get st = (s.delay ch).get st) ∧
    (∀ ch', ch' ≠ ch → t.delay ch' = s.delay ch')

/-- R82, R103: the two PROCs of a frame may come in either order: the state they leave is the same, and so
is each one's response. That drawn NaNs and the draw counters are the same too, bit for bit, is the model's
choice of one counter for each channel (log 4); the spec fixes NaNs as a class only (U1). -/
def Obligations.ChannelsProcessIndependently : Prop :=
  ∀ (s t0 t01 t1 t10 : State) (x y : Word), s.port = .rp →
    exec (.proc .ch0 x) s = .next t0 → exec (.proc .ch1 y) t0 = .next t01 →
    exec (.proc .ch1 y) s = .next t1 → exec (.proc .ch0 x) t1 = .next t10 →
      { t01 with responses := [] } = { t10 with responses := [] } ∧
      t01.responses.head? = t1.responses.head? ∧ t10.responses.head? = t0.responses.head?

/-- R65, R80: a commit writes no delay state and, by R67, the next sample runs the new coefficients on the
old state: PROC after FORCE is the chain over the committed set and the delay state from before. That a commit takes no NaN draw, so
that drawn NaNs agree bit for bit, is the model's choice (log 4). -/
def Obligations.SwapKeepsDelayState : Prop :=
  ∀ (s t : State) (ch : Channel) (x : Word), exec .force s = .next t →
    t.d0 = s.d0 ∧ t.d1 = s.d1 ∧
    t.process ch x = chainProcess s.params.form (arith32 s.params.denorm ch)
      (commitActive s.pending (s.active ch)) (s.delay ch) x (s.draws ch)

/-! ## Filter stage -/

/-- R60: in exact arithmetic and from zero delay state both forms give the same outputs. -/
def Obligations.FormsAgreeInExactArithmetic : Prop :=
  ∀ (c : Coefs ℚ) (xs : List ℚ), exactOutputs .df2 c xs = exactOutputs .tdf2 c xs

/-- R60: in exact arithmetic and from zero delay state the outputs of either form meet the difference
equation `y[n] = b0·x[n] + b1·x[n-1] + b2·x[n-2] − a1·y[n-1] − a2·y[n-2]`. -/
def Obligations.ExactOutputsMeetDifferenceEquation : Prop :=
  ∀ (form : StageForm) (c : Coefs ℚ) (xs : List ℚ) (n : Nat), n < xs.length →
    (exactOutputs form c xs).length = xs.length ∧
    before (exactOutputs form c xs) n 0 =
      c.b0 * before xs n 0 + c.b1 * before xs n 1 + c.b2 * before xs n 2
        - c.a1 * before (exactOutputs form c xs) n 1 - c.a2 * before (exactOutputs form c xs) n 2

/-- R59, R8: each operation on finite operands gives the exact result, rounded once to nearest with ties to
even. First, the rounding: no number of a format with `fb` fraction bits and no upper limit on the
exponent is nearer to the exact result `n · 2^-x` units, and of two equally near ones the even one is
taken. Then each operation: the exact sum, difference or product of the operands (subnormals read as
zeros under FTZ_DAZ), so rounded, with overflow to the infinity of its sign and under FTZ_DAZ a
subnormal result replaced by a zero of its sign; an exact zero sum is −0 only from two −0. No draw
is taken. That DENORM_MODE plays no part in binary64 is the model's reading (log 7). -/
def Obligations.RoundingIsNearestTiesToEven : Prop :=
  (∀ fb n x b : Nat, 1 ≤ fb →
    |(unitsOf fb (roundBits fb n x) * 2 ^ x : ℤ) - n| ≤ |(unitsOf fb b * 2 ^ x : ℤ) - n| ∧
    (|(unitsOf fb (roundBits fb n x) * 2 ^ x : ℤ) - n| = |(unitsOf fb b * 2 ^ x : ℤ) - n| →
      unitsOf fb b ≠ unitsOf fb (roundBits fb n x) → roundBits fb n x % 2 = 0)) ∧
  (∀ (mode : DenormMode) (ch : Channel) (a b : Word) (k : Nat), isFinite32 a = true → isFinite32 b = true →
    (let z := value32 mode a + value32 mode b
     isResult32 mode (if z = 0 then a.msb && b.msb else decide (z < 0)) z.natAbs 0 (add32 mode ch a b k).1 ∧
       (add32 mode ch a b k).2 = k) ∧
    (let z := value32 mode a - value32 mode b
     isResult32 mode (if z = 0 then a.msb && !b.msb else decide (z < 0)) z.natAbs 0 (sub32 mode ch a b k).1 ∧
       (sub32 mode ch a b k).2 = k) ∧
    (let z := value32 mode a * value32 mode b
     isResult32 mode (a.msb ^^ b.msb) z.natAbs 149 (mul32 mode ch a b k).1 ∧ (mul32 mode ch a b k).2 = k)) ∧
  (∀ (a b : DWord) (k : Nat), isFinite64 a = true → isFinite64 b = true →
    isResult64 (a.msb ^^ b.msb) (value64 a * value64 b).natAbs 1074 (mul64 a b k).1 ∧ (mul64 a b k).2 = k)

/-- R59, R76: multiplication by 1.0 is exact: in binary32 for every zero, infinity and number DENORM_MODE
leaves alone, in binary64 for everything but a NaN. -/
def Obligations.MultiplyingByOneIsExact : Prop :=
  (∀ (mode : DenormMode) (ch : Channel) (w : Word) (n : Nat), isNaN32 w = false → leftAlone mode w = true →
    mul32 mode ch 0x3F800000 w n = (w, n)) ∧
  (∀ (w : DWord) (n : Nat), isNaN64 w = false → mul64 one64 w n = (w, n))

/-- R64 cases 2 and 3, R125: poisoning, as R61 and R62 bear it (log 18), whatever the coefficients unless
they are named. A NaN input, or a NaN in the delay state where the next output reads it (either
register in DF2, d0 in TDF2), makes the output a NaN and leaves such a delay state. A NaN or an
infinity in these places makes the output one too and leaves such a delay state, so no output of the
stage is finite again. In d1 of TDF2 either does so from the second output on. An identity stage
fed an infinity outputs it and then NaNs only. While a stage that runs has such a delay state, no
output of its channel is finite, and none is a number where it holds a NaN; the stage keeps it. -/
def Obligations.NanPoisonsTheStage : Prop :=
  (∀ (form : StageForm) (mode : DenormMode) (ch : Channel) (c : Coefs Word) (d : Delay Word) (x : Word) (n : Nat),
    ((isNaN32 x = true ∨ poisoned form d = true) →
      isNaN32 (stageProcess form (arith32 mode ch) c d x n).y = true ∧
      poisoned form (stageProcess form (arith32 mode ch) c d x n).delay = true) ∧
    (isNaN32 d.d1 = true → poisoned form (stageProcess form (arith32 mode ch) c d x n).delay = true) ∧
    ((isFinite32 x = false ∨ nonFiniteState form d = true) →
      isFinite32 (stageProcess form (arith32 mode ch) c d x n).y = false ∧
      nonFiniteState form (stageProcess form (arith32 mode ch) c d x n).delay = true) ∧
    (isFinite32 d.d1 = false →
      nonFiniteState form (stageProcess form (arith32 mode ch) c d x n).delay = true)) ∧
  (∀ (form : StageForm) (mode : DenormMode) (ch : Channel) (d : Delay Word) (x x' : Word) (n : Nat),
    restfulStage form d = true → absBits32 x = 0x7F800000 →
      let first := stageProcess form (arith32 mode ch) identityCoefs d x n
      let second := stageProcess form (arith32 mode ch) identityCoefs first.delay x' first.draws
      first.y = x ∧ isNaN32 second.y = true ∧ poisoned form second.delay = true) ∧
  (∀ (s : State) (ch : Channel) (x : Word) (st : StageId), s.port = .rp → runs (s.active ch) st = true →
    nonFiniteState s.params.form ((s.delay ch).get st) = true →
      ∃ t y, exec (.proc ch x) s = .next t ∧ t.responses = (.rp, .w32 y) :: s.responses ∧
        isFinite32 y = false ∧ nonFiniteState t.params.form ((t.delay ch).get st) = true ∧
        (poisoned s.params.form ((s.delay ch).get st) = true →
          isNaN32 y = true ∧ poisoned t.params.form ((t.delay ch).get st) = true))

/-- R64 case 1 (V-S2): an identity stage maps −0 to +0 in both forms; DF2 stores −0 in d0. -/
def Obligations.NegativeZeroThroughIdentityStage : Prop :=
  ∀ (mode : DenormMode) (ch : Channel) (n : Nat),
    stageProcess .df2 (arith32 mode ch) identityCoefs ⟨0, 0⟩ 0x80000000 n = ⟨0, ⟨0x80000000, 0⟩, n⟩ ∧
    stageProcess .tdf2 (arith32 mode ch) identityCoefs ⟨0, 0⟩ 0x80000000 n = ⟨0, ⟨0, 0x80000000⟩, n⟩

/-- R29, R120: three identity stages return every finite sample unchanged but for −0, and but for a
subnormal under FTZ_DAZ (log 18); they leave a delay state with which the next such sample passes too. It
holds for a channel with the reset active set, in both forms and both DENORM_MODEs. -/
def Obligations.ResetChainIsTransparent : Prop :=
  ∀ (s : State) (ch : Channel) (x : Word), s.port = .rp → s.active ch = ActiveSet.reset →
    restful s.params.form (s.delay ch) → plainSample s.params.denorm x = true →
      ∃ t, exec (.proc ch x) s = .next t ∧ t.responses = (.rp, .w32 x) :: s.responses ∧
        restful t.params.form (t.delay ch)

/-! ## Magnitude -/

/-- R84: a query is evaluated exactly when its frequency is finite and SR is finite and positive, and
both are widened exactly: 2^-149 is 2^925 times 2^-1074. -/
def Obligations.QueryPointIsExact : Prop :=
  ∀ freq sr : Word,
    (isFinite32 freq = true ∧ isFinite32 sr = true ∧ sr.msb = false ∧ isZero32 sr = false →
      ∃ f fs, queryPoint freq sr = some (f, fs) ∧
        read64 f = .fin freq.msb (mag32 .ieee freq * 2 ^ 925) ∧
        read64 fs = .fin false (mag32 .ieee sr * 2 ^ 925)) ∧
    (¬ (isFinite32 freq = true ∧ isFinite32 sr = true ∧ sr.msb = false ∧ isZero32 sr = false) →
      queryPoint freq sr = none)

/-- R84: a query at a bad frequency or sample rate returns the NaN 0x7FF8000000000000 and changes nothing,
in every mode. -/
def Obligations.BadQueryReturnsNaN : Prop :=
  ∀ (s : State) (ch : Channel) (sec : Section) (stg : BitVec 2) (freq : Word), s.port = .cp →
    queryPoint freq s.sr = none → stageFits sec stg = true →
      exec (.magqDb ch freq) s = .next { s with responses := (.cp, .w64 0x7FF8000000000000) :: s.responses } ∧
      exec (.magqLin ch freq) s = .next { s with responses := (.cp, .w64 0x7FF8000000000000) :: s.responses } ∧
      exec (.magqSec ch sec freq) s = .next { s with responses := (.cp, .w64 0x7FF8000000000000) :: s.responses } ∧
      exec (.magqStg ch sec stg freq) s = .next { s with responses := (.cp, .w64 0x7FF8000000000000) :: s.responses }

/-- R98 to R101: at a good frequency each MAGQ command on CP returns its function's value and changes no
state of the block (only the model's draw counter of magnitude products, log 4). What those functions are:
BankMag (R76) multiplies the magnitudes of exactly the active stages in index order, from 1.0; SecMag
(R85) is 1.0 for a bypassed section, and else the stage's or the bank's; ChainMag (R86) multiplies the
sections that are not bypassed in the order LC, PK, HC, from 1.0; ChainDb (R87) is 20.0 times the
logarithm. -/
def Obligations.MagnitudeCommandsAnswer : Prop :=
  (∀ (s : State) (ch : Channel) (freq : Word) (f fs : DWord), s.port = .cp →
      queryPoint freq s.sr = some (f, fs) →
        (exec (.magqDb ch freq) s =
          let r := chainDb (s.active ch) f fs s.magDraws
          .next { s with magDraws := r.2, responses := (.cp, .w64 r.1) :: s.responses }) ∧
        (exec (.magqLin ch freq) s =
          let r := chainMag (s.active ch) f fs s.magDraws
          .next { s with magDraws := r.2, responses := (.cp, .w64 r.1) :: s.responses }) ∧
        (∀ sec, exec (.magqSec ch sec freq) s =
          let r := secMag (s.active ch) sec f fs s.magDraws
          .next { s with magDraws := r.2, responses := (.cp, .w64 r.1) :: s.responses }) ∧
        (∀ i : BitVec 2,
          exec (.magqStg ch .lc i freq) s = .next { s with
            responses := (.cp, .w64 (stageMag ((s.active ch).coef.get (.lc i)) f fs)) :: s.responses } ∧
          exec (.magqStg ch .hc i freq) s = .next { s with
            responses := (.cp, .w64 (stageMag ((s.active ch).coef.get (.hc i)) f fs)) :: s.responses }) ∧
        exec (.magqStg ch .pk 0 freq) s = .next { s with
          responses := (.cp, .w64 (stageMag (s.active ch).coef.pk f fs)) :: s.responses }) ∧
  (∀ (act : Bank Bool) (c : Bank (Coefs Word)) (f fs : DWord) (n : Nat),
    bankMag act c f fs n = (([0, 1, 2, 3] : List (BitVec 2)).filter act.get).foldl
      (fun m i => mul64 m.1 (stageMag (c.get i) f fs) m.2) (0x3FF0000000000000, n)) ∧
  (∀ (a : ActiveSet) (sec : Section) (f fs : DWord) (n : Nat), secMag a sec f fs n =
    if a.byp.get sec = true then (0x3FF0000000000000, n)
    else if sec = .lc then bankMag a.actLc a.coef.lc f fs n
    else if sec = .pk then (stageMag a.coef.pk f fs, n)
    else bankMag a.actHc a.coef.hc f fs n) ∧
  (∀ (a : ActiveSet) (f fs : DWord) (n : Nat),
    chainMag a f fs n = ([Section.lc, .pk, .hc].filter (fun sec => !a.byp.get sec)).foldl
      (fun m sec => mul64 m.1 (secMag a sec f fs m.2).1 (secMag a sec f fs m.2).2) (0x3FF0000000000000, n)) ∧
  (∀ (a : ActiveSet) (f fs : DWord) (n : Nat),
    chainDb a f fs n = mul64 0x4034000000000000 (log10Of (chainMag a f fs n).1) (chainMag a f fs n).2)

/-- R68, U2: the magnitude of a pure gain is `|b0|` exactly, at every frequency. -/
def Obligations.PureGainMagnitudeIsExact : Prop :=
  ∀ (c : Coefs Word) (f fs : DWord), isZero32 c.b1 = true → isZero32 c.b2 = true → isZero32 c.a1 = true →
    isZero32 c.a2 = true →
      (isFinite32 c.b0 = true → read64 (stageMag c f fs) = .fin false (mag32 .ieee c.b0 * 2 ^ 925)) ∧
      (absBits32 c.b0 = 0x7F800000 → stageMag c f fs = 0x7FF0000000000000)

/-- R87, U3: the assumed properties of Log10Fn. -/
def Obligations.LogarithmHasAssumedProperties : Prop :=
  log10Of 0x3FF0000000000000 = 0 ∧ log10Of 0 = 0xFFF0000000000000 ∧
  log10Of 0x8000000000000000 = 0xFFF0000000000000 ∧ log10Of 0x7FF0000000000000 = 0x7FF0000000000000 ∧
  (∀ x : DWord, isNaN64 x = true → isNaN64 (log10Of x) = true) ∧
  (∀ x : DWord, x.msb = true → absBits64 x ≠ 0 → isNaN64 (log10Of x) = true)

/-- R85, R86, R98 to R100: with all sections bypassed the linear and section magnitudes are exactly 1.0 and
the dB magnitude exactly +0.0, whatever the coefficients. -/
def Obligations.BypassedMagnitudeIsOne : Prop :=
  ∀ (s : State) (ch : Channel) (freq : Word) (f fs : DWord), s.port = .cp →
    queryPoint freq s.sr = some (f, fs) → (s.active ch).byp = ⟨true, true, true⟩ →
      exec (.magqLin ch freq) s = .next { s with responses := (.cp, .w64 0x3FF0000000000000) :: s.responses } ∧
      (∀ sec, exec (.magqSec ch sec freq) s =
        .next { s with responses := (.cp, .w64 0x3FF0000000000000) :: s.responses }) ∧
      exec (.magqDb ch freq) s = .next { s with responses := (.cp, .w64 0) :: s.responses }

/-- R88, R16: where the two channels hold the same active set (an invariant, StepKeepsInvariant), every
magnitude command answers the same for both. That drawn NaNs are the same too, bit for bit, is the model's
choice of one counter of magnitude draws for both channels (log 4). -/
def Obligations.ChannelsGiveTheSameMagnitudes : Prop :=
  ∀ (s : State) (freq : Word) (sec : Section) (stg : BitVec 2), s.ChannelsAgree →
    exec (.magqDb .ch0 freq) s = exec (.magqDb .ch1 freq) s ∧
    exec (.magqLin .ch0 freq) s = exec (.magqLin .ch1 freq) s ∧
    exec (.magqSec .ch0 sec freq) s = exec (.magqSec .ch1 sec freq) s ∧
    exec (.magqStg .ch0 sec stg freq) s = exec (.magqStg .ch1 sec stg freq) s

/-- R88, R68: a PUBLISH that is not yet committed, a staged write other than to SR, and any delay state change no
magnitude: two states with the same active set, SR, port and magnitude draws (log 4) give the same
response to every magnitude command. -/
def Obligations.MagnitudeReadsOnlyTheActiveSet : Prop :=
  ∀ (s s' t t' : State) (ch : Channel) (sec : Section) (stg : BitVec 2) (freq : Word), s.port = s'.port →
    s.sr = s'.sr → s.active ch = s'.active ch → s.magDraws = s'.magDraws →
      ∀ i ∈ [Instr.magqDb ch freq, .magqLin ch freq, .magqSec ch sec freq, .magqStg ch sec stg freq],
        exec i s = .next t → exec i s' = .next t' → t.responses.head? = t'.responses.head?

/-! ## Transport and assembler -/

/-- R30, R31: in either byte order a transaction carried as bytes arrives as it was sent, and a little-endian
64-bit response goes out lowest byte first. That the orders are these two is the model's choice (log 20),
and that the command word's bytes come first its reading (log 14). -/
def Obligations.ByteTransportIsLossless : Prop :=
  (∀ (order : ByteOrder) (t : Transaction),
    transactionOfBytes order (transactionBytes order t) = some t) ∧
  (∀ v : DWord, responseBytes .little (.w64 v) =
    [v.extractLsb' 0 8, v.extractLsb' 8 8, v.extractLsb' 16 8, v.extractLsb' 24 8,
     v.extractLsb' 32 8, v.extractLsb' 40 8, v.extractLsb' 48 8, v.extractLsb' 56 8])

/-- R49: the fields of the value WRCTRL writes do not overlap: each reads back as given, and no reserved bit
is set. -/
def Obligations.WrctrlFieldsReadBack : Prop :=
  ∀ (lc hc : BitVec 2) (byp val : SectionSet),
    ctrlLcOrd (wrctrlValue lc hc byp val) = lc ∧ ctrlHcOrd (wrctrlValue lc hc byp val) = hc ∧
    ctrlBypass (wrctrlValue lc hc byp val) = ⟨byp.lc, byp.pk, byp.hc⟩ ∧
    ctrlLcVal (wrctrlValue lc hc byp val) = val.lc ∧ ctrlPkVal (wrctrlValue lc hc byp val) = val.pk ∧
    ctrlHcVal (wrctrlValue lc hc byp val) = val.hc ∧
    wrctrlValue lc hc byp val &&& ctrlMask = wrctrlValue lc hc byp val
end

