-- ==== Sys2Proof/Laws/State.lean ====
section
/-! SUPPORT. One lemma per field per named update of the state, so that no later proof unfolds a record
update. -/

namespace Sys2Proof.Machine

/-! ## respond -/

@[simp] theorem respond_staging (s : State) (r : Response) :
    (s.respond r).staging = s.staging := rfl

@[simp] theorem respond_pending (s : State) (r : Response) :
    (s.respond r).pending = s.pending := rfl

@[simp] theorem respond_a0 (s : State) (r : Response) :
    (s.respond r).a0 = s.a0 := rfl

@[simp] theorem respond_a1 (s : State) (r : Response) :
    (s.respond r).a1 = s.a1 := rfl

@[simp] theorem respond_d0 (s : State) (r : Response) :
    (s.respond r).d0 = s.d0 := rfl

@[simp] theorem respond_d1 (s : State) (r : Response) :
    (s.respond r).d1 = s.d1 := rfl

@[simp] theorem respond_dirty (s : State) (r : Response) :
    (s.respond r).dirty = s.dirty := rfl

@[simp] theorem respond_errIll (s : State) (r : Response) :
    (s.respond r).errIll = s.errIll := rfl

@[simp] theorem respond_errPort (s : State) (r : Response) :
    (s.respond r).errPort = s.errPort := rfl

@[simp] theorem respond_errUnmap (s : State) (r : Response) :
    (s.respond r).errUnmap = s.errUnmap := rfl

@[simp] theorem respond_errRo (s : State) (r : Response) :
    (s.respond r).errRo = s.errRo := rfl

@[simp] theorem respond_sr (s : State) (r : Response) :
    (s.respond r).sr = s.sr := rfl

@[simp] theorem respond_params (s : State) (r : Response) :
    (s.respond r).params = s.params := rfl

@[simp] theorem respond_port (s : State) (r : Response) :
    (s.respond r).port = s.port := rfl

@[simp] theorem respond_cpQueue (s : State) (r : Response) :
    (s.respond r).cpQueue = s.cpQueue := rfl

@[simp] theorem respond_rpQueue (s : State) (r : Response) :
    (s.respond r).rpQueue = s.rpQueue := rfl

@[simp] theorem respond_schedule (s : State) (r : Response) :
    (s.respond r).schedule = s.schedule := rfl

@[simp] theorem respond_turns (s : State) (r : Response) :
    (s.respond r).turns = s.turns := rfl

@[simp] theorem respond_responses (s : State) (r : Response) :
    (s.respond r).responses = (s.port, r) :: s.responses := rfl

@[simp] theorem respond_draws0 (s : State) (r : Response) :
    (s.respond r).draws0 = s.draws0 := rfl

@[simp] theorem respond_draws1 (s : State) (r : Response) :
    (s.respond r).draws1 = s.draws1 := rfl

@[simp] theorem respond_magDraws (s : State) (r : Response) :
    (s.respond r).magDraws = s.magDraws := rfl

/-! ## publish -/

@[simp] theorem publish_staging (s : State) :
    (s.publish).staging = s.staging := rfl

@[simp] theorem publish_pending (s : State) :
    (s.publish).pending = s.staging := rfl

@[simp] theorem publish_a0 (s : State) :
    (s.publish).a0 = s.a0 := rfl

@[simp] theorem publish_a1 (s : State) :
    (s.publish).a1 = s.a1 := rfl

@[simp] theorem publish_d0 (s : State) :
    (s.publish).d0 = s.d0 := rfl

@[simp] theorem publish_d1 (s : State) :
    (s.publish).d1 = s.d1 := rfl

@[simp] theorem publish_dirty (s : State) :
    (s.publish).dirty = true := rfl

@[simp] theorem publish_errIll (s : State) :
    (s.publish).errIll = s.errIll := rfl

@[simp] theorem publish_errPort (s : State) :
    (s.publish).errPort = s.errPort := rfl

@[simp] theorem publish_errUnmap (s : State) :
    (s.publish).errUnmap = s.errUnmap := rfl

@[simp] theorem publish_errRo (s : State) :
    (s.publish).errRo = s.errRo := rfl

@[simp] theorem publish_sr (s : State) :
    (s.publish).sr = s.sr := rfl

@[simp] theorem publish_params (s : State) :
    (s.publish).params = s.params := rfl

@[simp] theorem publish_port (s : State) :
    (s.publish).port = s.port := rfl

@[simp] theorem publish_cpQueue (s : State) :
    (s.publish).cpQueue = s.cpQueue := rfl

@[simp] theorem publish_rpQueue (s : State) :
    (s.publish).rpQueue = s.rpQueue := rfl

@[simp] theorem publish_schedule (s : State) :
    (s.publish).schedule = s.schedule := rfl

@[simp] theorem publish_turns (s : State) :
    (s.publish).turns = s.turns := rfl

@[simp] theorem publish_responses (s : State) :
    (s.publish).responses = s.responses := rfl

@[simp] theorem publish_draws0 (s : State) :
    (s.publish).draws0 = s.draws0 := rfl

@[simp] theorem publish_draws1 (s : State) :
    (s.publish).draws1 = s.draws1 := rfl

@[simp] theorem publish_magDraws (s : State) :
    (s.publish).magDraws = s.magDraws := rfl

/-! ## commit -/

@[simp] theorem commit_staging (s : State) :
    (s.commit).staging = s.staging := rfl

@[simp] theorem commit_pending (s : State) :
    (s.commit).pending = s.pending := rfl

@[simp] theorem commit_a0 (s : State) :
    (s.commit).a0 = commitActive s.pending s.a0 := rfl

@[simp] theorem commit_a1 (s : State) :
    (s.commit).a1 = commitActive s.pending s.a1 := rfl

@[simp] theorem commit_d0 (s : State) :
    (s.commit).d0 = s.d0 := rfl

@[simp] theorem commit_d1 (s : State) :
    (s.commit).d1 = s.d1 := rfl

@[simp] theorem commit_dirty (s : State) :
    (s.commit).dirty = s.dirty := rfl

@[simp] theorem commit_errIll (s : State) :
    (s.commit).errIll = s.errIll := rfl

@[simp] theorem commit_errPort (s : State) :
    (s.commit).errPort = s.errPort := rfl

@[simp] theorem commit_errUnmap (s : State) :
    (s.commit).errUnmap = s.errUnmap := rfl

@[simp] theorem commit_errRo (s : State) :
    (s.commit).errRo = s.errRo := rfl

@[simp] theorem commit_sr (s : State) :
    (s.commit).sr = s.sr := rfl

@[simp] theorem commit_params (s : State) :
    (s.commit).params = s.params := rfl

@[simp] theorem commit_port (s : State) :
    (s.commit).port = s.port := rfl

@[simp] theorem commit_cpQueue (s : State) :
    (s.commit).cpQueue = s.cpQueue := rfl

@[simp] theorem commit_rpQueue (s : State) :
    (s.commit).rpQueue = s.rpQueue := rfl

@[simp] theorem commit_schedule (s : State) :
    (s.commit).schedule = s.schedule := rfl

@[simp] theorem commit_turns (s : State) :
    (s.commit).turns = s.turns := rfl

@[simp] theorem commit_responses (s : State) :
    (s.commit).responses = s.responses := rfl

@[simp] theorem commit_draws0 (s : State) :
    (s.commit).draws0 = s.draws0 := rfl

@[simp] theorem commit_draws1 (s : State) :
    (s.commit).draws1 = s.draws1 := rfl

@[simp] theorem commit_magDraws (s : State) :
    (s.commit).magDraws = s.magDraws := rfl

/-! ## clearAndCommit -/

@[simp] theorem clearAndCommit_staging (s : State) :
    (s.clearAndCommit).staging = s.staging := rfl

@[simp] theorem clearAndCommit_pending (s : State) :
    (s.clearAndCommit).pending = s.pending := rfl

@[simp] theorem clearAndCommit_a0 (s : State) :
    (s.clearAndCommit).a0 = commitActive s.pending s.a0 := rfl

@[simp] theorem clearAndCommit_a1 (s : State) :
    (s.clearAndCommit).a1 = commitActive s.pending s.a1 := rfl

@[simp] theorem clearAndCommit_d0 (s : State) :
    (s.clearAndCommit).d0 = s.d0 := rfl

@[simp] theorem clearAndCommit_d1 (s : State) :
    (s.clearAndCommit).d1 = s.d1 := rfl

@[simp] theorem clearAndCommit_dirty (s : State) :
    (s.clearAndCommit).dirty = false := rfl

@[simp] theorem clearAndCommit_errIll (s : State) :
    (s.clearAndCommit).errIll = s.errIll := rfl

@[simp] theorem clearAndCommit_errPort (s : State) :
    (s.clearAndCommit).errPort = s.errPort := rfl

@[simp] theorem clearAndCommit_errUnmap (s : State) :
    (s.clearAndCommit).errUnmap = s.errUnmap := rfl

@[simp] theorem clearAndCommit_errRo (s : State) :
    (s.clearAndCommit).errRo = s.errRo := rfl

@[simp] theorem clearAndCommit_sr (s : State) :
    (s.clearAndCommit).sr = s.sr := rfl

@[simp] theorem clearAndCommit_params (s : State) :
    (s.clearAndCommit).params = s.params := rfl

@[simp] theorem clearAndCommit_port (s : State) :
    (s.clearAndCommit).port = s.port := rfl

@[simp] theorem clearAndCommit_cpQueue (s : State) :
    (s.clearAndCommit).cpQueue = s.cpQueue := rfl

@[simp] theorem clearAndCommit_rpQueue (s : State) :
    (s.clearAndCommit).rpQueue = s.rpQueue := rfl

@[simp] theorem clearAndCommit_schedule (s : State) :
    (s.clearAndCommit).schedule = s.schedule := rfl

@[simp] theorem clearAndCommit_turns (s : State) :
    (s.clearAndCommit).turns = s.turns := rfl

@[simp] theorem clearAndCommit_responses (s : State) :
    (s.clearAndCommit).responses = s.responses := rfl

@[simp] theorem clearAndCommit_draws0 (s : State) :
    (s.clearAndCommit).draws0 = s.draws0 := rfl

@[simp] theorem clearAndCommit_draws1 (s : State) :
    (s.clearAndCommit).draws1 = s.draws1 := rfl

@[simp] theorem clearAndCommit_magDraws (s : State) :
    (s.clearAndCommit).magDraws = s.magDraws := rfl

/-! ## resetBlock -/

@[simp] theorem resetBlock_staging (s : State) :
    (s.resetBlock).staging = State.reset.staging := rfl

@[simp] theorem resetBlock_pending (s : State) :
    (s.resetBlock).pending = State.reset.pending := rfl

@[simp] theorem resetBlock_a0 (s : State) :
    (s.resetBlock).a0 = State.reset.a0 := rfl

@[simp] theorem resetBlock_a1 (s : State) :
    (s.resetBlock).a1 = State.reset.a1 := rfl

@[simp] theorem resetBlock_d0 (s : State) :
    (s.resetBlock).d0 = State.reset.d0 := rfl

@[simp] theorem resetBlock_d1 (s : State) :
    (s.resetBlock).d1 = State.reset.d1 := rfl

@[simp] theorem resetBlock_dirty (s : State) :
    (s.resetBlock).dirty = State.reset.dirty := rfl

@[simp] theorem resetBlock_errIll (s : State) :
    (s.resetBlock).errIll = State.reset.errIll := rfl

@[simp] theorem resetBlock_errPort (s : State) :
    (s.resetBlock).errPort = State.reset.errPort := rfl

@[simp] theorem resetBlock_errUnmap (s : State) :
    (s.resetBlock).errUnmap = State.reset.errUnmap := rfl

@[simp] theorem resetBlock_errRo (s : State) :
    (s.resetBlock).errRo = State.reset.errRo := rfl

@[simp] theorem resetBlock_sr (s : State) :
    (s.resetBlock).sr = State.reset.sr := rfl

@[simp] theorem resetBlock_params (s : State) :
    (s.resetBlock).params = s.params := rfl

@[simp] theorem resetBlock_port (s : State) :
    (s.resetBlock).port = s.port := rfl

@[simp] theorem resetBlock_cpQueue (s : State) :
    (s.resetBlock).cpQueue = s.cpQueue := rfl

@[simp] theorem resetBlock_rpQueue (s : State) :
    (s.resetBlock).rpQueue = s.rpQueue := rfl

@[simp] theorem resetBlock_schedule (s : State) :
    (s.resetBlock).schedule = s.schedule := rfl

@[simp] theorem resetBlock_turns (s : State) :
    (s.resetBlock).turns = s.turns := rfl

@[simp] theorem resetBlock_responses (s : State) :
    (s.resetBlock).responses = s.responses := rfl

@[simp] theorem resetBlock_draws0 (s : State) :
    (s.resetBlock).draws0 = s.draws0 := rfl

@[simp] theorem resetBlock_draws1 (s : State) :
    (s.resetBlock).draws1 = s.draws1 := rfl

@[simp] theorem resetBlock_magDraws (s : State) :
    (s.resetBlock).magDraws = s.magDraws := rfl

/-! ## raiseErr .ill -/

@[simp] theorem raiseErr_ill_staging (w : Width) (s : State) :
    (raiseErr .ill w s).staging = s.staging := rfl

@[simp] theorem raiseErr_ill_pending (w : Width) (s : State) :
    (raiseErr .ill w s).pending = s.pending := rfl

@[simp] theorem raiseErr_ill_a0 (w : Width) (s : State) :
    (raiseErr .ill w s).a0 = s.a0 := rfl

@[simp] theorem raiseErr_ill_a1 (w : Width) (s : State) :
    (raiseErr .ill w s).a1 = s.a1 := rfl

@[simp] theorem raiseErr_ill_d0 (w : Width) (s : State) :
    (raiseErr .ill w s).d0 = s.d0 := rfl

@[simp] theorem raiseErr_ill_d1 (w : Width) (s : State) :
    (raiseErr .ill w s).d1 = s.d1 := rfl

@[simp] theorem raiseErr_ill_dirty (w : Width) (s : State) :
    (raiseErr .ill w s).dirty = s.dirty := rfl

@[simp] theorem raiseErr_ill_errIll (w : Width) (s : State) :
    (raiseErr .ill w s).errIll = true := rfl

@[simp] theorem raiseErr_ill_errPort (w : Width) (s : State) :
    (raiseErr .ill w s).errPort = s.errPort := rfl

@[simp] theorem raiseErr_ill_errUnmap (w : Width) (s : State) :
    (raiseErr .ill w s).errUnmap = s.errUnmap := rfl

@[simp] theorem raiseErr_ill_errRo (w : Width) (s : State) :
    (raiseErr .ill w s).errRo = s.errRo := rfl

@[simp] theorem raiseErr_ill_sr (w : Width) (s : State) :
    (raiseErr .ill w s).sr = s.sr := rfl

@[simp] theorem raiseErr_ill_params (w : Width) (s : State) :
    (raiseErr .ill w s).params = s.params := rfl

@[simp] theorem raiseErr_ill_port (w : Width) (s : State) :
    (raiseErr .ill w s).port = s.port := rfl

@[simp] theorem raiseErr_ill_cpQueue (w : Width) (s : State) :
    (raiseErr .ill w s).cpQueue = s.cpQueue := rfl

@[simp] theorem raiseErr_ill_rpQueue (w : Width) (s : State) :
    (raiseErr .ill w s).rpQueue = s.rpQueue := rfl

@[simp] theorem raiseErr_ill_schedule (w : Width) (s : State) :
    (raiseErr .ill w s).schedule = s.schedule := rfl

@[simp] theorem raiseErr_ill_turns (w : Width) (s : State) :
    (raiseErr .ill w s).turns = s.turns := rfl

@[simp] theorem raiseErr_ill_responses (w : Width) (s : State) :
    (raiseErr .ill w s).responses = (s.port, zeroResponse w) :: s.responses := rfl

@[simp] theorem raiseErr_ill_draws0 (w : Width) (s : State) :
    (raiseErr .ill w s).draws0 = s.draws0 := rfl

@[simp] theorem raiseErr_ill_draws1 (w : Width) (s : State) :
    (raiseErr .ill w s).draws1 = s.draws1 := rfl

@[simp] theorem raiseErr_ill_magDraws (w : Width) (s : State) :
    (raiseErr .ill w s).magDraws = s.magDraws := rfl

/-! ## raiseErr .port -/

@[simp] theorem raiseErr_port_staging (w : Width) (s : State) :
    (raiseErr .port w s).staging = s.staging := rfl

@[simp] theorem raiseErr_port_pending (w : Width) (s : State) :
    (raiseErr .port w s).pending = s.pending := rfl

@[simp] theorem raiseErr_port_a0 (w : Width) (s : State) :
    (raiseErr .port w s).a0 = s.a0 := rfl

@[simp] theorem raiseErr_port_a1 (w : Width) (s : State) :
    (raiseErr .port w s).a1 = s.a1 := rfl

@[simp] theorem raiseErr_port_d0 (w : Width) (s : State) :
    (raiseErr .port w s).d0 = s.d0 := rfl

@[simp] theorem raiseErr_port_d1 (w : Width) (s : State) :
    (raiseErr .port w s).d1 = s.d1 := rfl

@[simp] theorem raiseErr_port_dirty (w : Width) (s : State) :
    (raiseErr .port w s).dirty = s.dirty := rfl

@[simp] theorem raiseErr_port_errIll (w : Width) (s : State) :
    (raiseErr .port w s).errIll = s.errIll := rfl

@[simp] theorem raiseErr_port_errPort (w : Width) (s : State) :
    (raiseErr .port w s).errPort = true := rfl

@[simp] theorem raiseErr_port_errUnmap (w : Width) (s : State) :
    (raiseErr .port w s).errUnmap = s.errUnmap := rfl

@[simp] theorem raiseErr_port_errRo (w : Width) (s : State) :
    (raiseErr .port w s).errRo = s.errRo := rfl

@[simp] theorem raiseErr_port_sr (w : Width) (s : State) :
    (raiseErr .port w s).sr = s.sr := rfl

@[simp] theorem raiseErr_port_params (w : Width) (s : State) :
    (raiseErr .port w s).params = s.params := rfl

@[simp] theorem raiseErr_port_port (w : Width) (s : State) :
    (raiseErr .port w s).port = s.port := rfl

@[simp] theorem raiseErr_port_cpQueue (w : Width) (s : State) :
    (raiseErr .port w s).cpQueue = s.cpQueue := rfl

@[simp] theorem raiseErr_port_rpQueue (w : Width) (s : State) :
    (raiseErr .port w s).rpQueue = s.rpQueue := rfl

@[simp] theorem raiseErr_port_schedule (w : Width) (s : State) :
    (raiseErr .port w s).schedule = s.schedule := rfl

@[simp] theorem raiseErr_port_turns (w : Width) (s : State) :
    (raiseErr .port w s).turns = s.turns := rfl

@[simp] theorem raiseErr_port_responses (w : Width) (s : State) :
    (raiseErr .port w s).responses = (s.port, zeroResponse w) :: s.responses := rfl

@[simp] theorem raiseErr_port_draws0 (w : Width) (s : State) :
    (raiseErr .port w s).draws0 = s.draws0 := rfl

@[simp] theorem raiseErr_port_draws1 (w : Width) (s : State) :
    (raiseErr .port w s).draws1 = s.draws1 := rfl

@[simp] theorem raiseErr_port_magDraws (w : Width) (s : State) :
    (raiseErr .port w s).magDraws = s.magDraws := rfl

/-! ## raiseErr .unmap -/

@[simp] theorem raiseErr_unmap_staging (w : Width) (s : State) :
    (raiseErr .unmap w s).staging = s.staging := rfl

@[simp] theorem raiseErr_unmap_pending (w : Width) (s : State) :
    (raiseErr .unmap w s).pending = s.pending := rfl

@[simp] theorem raiseErr_unmap_a0 (w : Width) (s : State) :
    (raiseErr .unmap w s).a0 = s.a0 := rfl

@[simp] theorem raiseErr_unmap_a1 (w : Width) (s : State) :
    (raiseErr .unmap w s).a1 = s.a1 := rfl

@[simp] theorem raiseErr_unmap_d0 (w : Width) (s : State) :
    (raiseErr .unmap w s).d0 = s.d0 := rfl

@[simp] theorem raiseErr_unmap_d1 (w : Width) (s : State) :
    (raiseErr .unmap w s).d1 = s.d1 := rfl

@[simp] theorem raiseErr_unmap_dirty (w : Width) (s : State) :
    (raiseErr .unmap w s).dirty = s.dirty := rfl

@[simp] theorem raiseErr_unmap_errIll (w : Width) (s : State) :
    (raiseErr .unmap w s).errIll = s.errIll := rfl

@[simp] theorem raiseErr_unmap_errPort (w : Width) (s : State) :
    (raiseErr .unmap w s).errPort = s.errPort := rfl

@[simp] theorem raiseErr_unmap_errUnmap (w : Width) (s : State) :
    (raiseErr .unmap w s).errUnmap = true := rfl

@[simp] theorem raiseErr_unmap_errRo (w : Width) (s : State) :
    (raiseErr .unmap w s).errRo = s.errRo := rfl

@[simp] theorem raiseErr_unmap_sr (w : Width) (s : State) :
    (raiseErr .unmap w s).sr = s.sr := rfl

@[simp] theorem raiseErr_unmap_params (w : Width) (s : State) :
    (raiseErr .unmap w s).params = s.params := rfl

@[simp] theorem raiseErr_unmap_port (w : Width) (s : State) :
    (raiseErr .unmap w s).port = s.port := rfl

@[simp] theorem raiseErr_unmap_cpQueue (w : Width) (s : State) :
    (raiseErr .unmap w s).cpQueue = s.cpQueue := rfl

@[simp] theorem raiseErr_unmap_rpQueue (w : Width) (s : State) :
    (raiseErr .unmap w s).rpQueue = s.rpQueue := rfl

@[simp] theorem raiseErr_unmap_schedule (w : Width) (s : State) :
    (raiseErr .unmap w s).schedule = s.schedule := rfl

@[simp] theorem raiseErr_unmap_turns (w : Width) (s : State) :
    (raiseErr .unmap w s).turns = s.turns := rfl

@[simp] theorem raiseErr_unmap_responses (w : Width) (s : State) :
    (raiseErr .unmap w s).responses = (s.port, zeroResponse w) :: s.responses := rfl

@[simp] theorem raiseErr_unmap_draws0 (w : Width) (s : State) :
    (raiseErr .unmap w s).draws0 = s.draws0 := rfl

@[simp] theorem raiseErr_unmap_draws1 (w : Width) (s : State) :
    (raiseErr .unmap w s).draws1 = s.draws1 := rfl

@[simp] theorem raiseErr_unmap_magDraws (w : Width) (s : State) :
    (raiseErr .unmap w s).magDraws = s.magDraws := rfl

/-! ## raiseErr .ro -/

@[simp] theorem raiseErr_ro_staging (w : Width) (s : State) :
    (raiseErr .ro w s).staging = s.staging := rfl

@[simp] theorem raiseErr_ro_pending (w : Width) (s : State) :
    (raiseErr .ro w s).pending = s.pending := rfl

@[simp] theorem raiseErr_ro_a0 (w : Width) (s : State) :
    (raiseErr .ro w s).a0 = s.a0 := rfl

@[simp] theorem raiseErr_ro_a1 (w : Width) (s : State) :
    (raiseErr .ro w s).a1 = s.a1 := rfl

@[simp] theorem raiseErr_ro_d0 (w : Width) (s : State) :
    (raiseErr .ro w s).d0 = s.d0 := rfl

@[simp] theorem raiseErr_ro_d1 (w : Width) (s : State) :
    (raiseErr .ro w s).d1 = s.d1 := rfl

@[simp] theorem raiseErr_ro_dirty (w : Width) (s : State) :
    (raiseErr .ro w s).dirty = s.dirty := rfl

@[simp] theorem raiseErr_ro_errIll (w : Width) (s : State) :
    (raiseErr .ro w s).errIll = s.errIll := rfl

@[simp] theorem raiseErr_ro_errPort (w : Width) (s : State) :
    (raiseErr .ro w s).errPort = s.errPort := rfl

@[simp] theorem raiseErr_ro_errUnmap (w : Width) (s : State) :
    (raiseErr .ro w s).errUnmap = s.errUnmap := rfl

@[simp] theorem raiseErr_ro_errRo (w : Width) (s : State) :
    (raiseErr .ro w s).errRo = true := rfl

@[simp] theorem raiseErr_ro_sr (w : Width) (s : State) :
    (raiseErr .ro w s).sr = s.sr := rfl

@[simp] theorem raiseErr_ro_params (w : Width) (s : State) :
    (raiseErr .ro w s).params = s.params := rfl

@[simp] theorem raiseErr_ro_port (w : Width) (s : State) :
    (raiseErr .ro w s).port = s.port := rfl

@[simp] theorem raiseErr_ro_cpQueue (w : Width) (s : State) :
    (raiseErr .ro w s).cpQueue = s.cpQueue := rfl

@[simp] theorem raiseErr_ro_rpQueue (w : Width) (s : State) :
    (raiseErr .ro w s).rpQueue = s.rpQueue := rfl

@[simp] theorem raiseErr_ro_schedule (w : Width) (s : State) :
    (raiseErr .ro w s).schedule = s.schedule := rfl

@[simp] theorem raiseErr_ro_turns (w : Width) (s : State) :
    (raiseErr .ro w s).turns = s.turns := rfl

@[simp] theorem raiseErr_ro_responses (w : Width) (s : State) :
    (raiseErr .ro w s).responses = (s.port, zeroResponse w) :: s.responses := rfl

@[simp] theorem raiseErr_ro_draws0 (w : Width) (s : State) :
    (raiseErr .ro w s).draws0 = s.draws0 := rfl

@[simp] theorem raiseErr_ro_draws1 (w : Width) (s : State) :
    (raiseErr .ro w s).draws1 = s.draws1 := rfl

@[simp] theorem raiseErr_ro_magDraws (w : Width) (s : State) :
    (raiseErr .ro w s).magDraws = s.magDraws := rfl

/-! ## setDelay .ch0 -/

@[simp] theorem setDelay_ch0_staging (s : State) (d : Chain (Delay Word)) (n : Nat) :
    (s.setDelay .ch0 d n).staging = s.staging := rfl

@[simp] theorem setDelay_ch0_pending (s : State) (d : Chain (Delay Word)) (n : Nat) :
    (s.setDelay .ch0 d n).pending = s.pending := rfl

@[simp] theorem setDelay_ch0_a0 (s : State) (d : Chain (Delay Word)) (n : Nat) :
    (s.setDelay .ch0 d n).a0 = s.a0 := rfl

@[simp] theorem setDelay_ch0_a1 (s : State) (d : Chain (Delay Word)) (n : Nat) :
    (s.setDelay .ch0 d n).a1 = s.a1 := rfl

@[simp] theorem setDelay_ch0_d0 (s : State) (d : Chain (Delay Word)) (n : Nat) :
    (s.setDelay .ch0 d n).d0 = d := rfl

@[simp] theorem setDelay_ch0_d1 (s : State) (d : Chain (Delay Word)) (n : Nat) :
    (s.setDelay .ch0 d n).d1 = s.d1 := rfl

@[simp] theorem setDelay_ch0_dirty (s : State) (d : Chain (Delay Word)) (n : Nat) :
    (s.setDelay .ch0 d n).dirty = s.dirty := rfl

@[simp] theorem setDelay_ch0_errIll (s : State) (d : Chain (Delay Word)) (n : Nat) :
    (s.setDelay .ch0 d n).errIll = s.errIll := rfl

@[simp] theorem setDelay_ch0_errPort (s : State) (d : Chain (Delay Word)) (n : Nat) :
    (s.setDelay .ch0 d n).errPort = s.errPort := rfl

@[simp] theorem setDelay_ch0_errUnmap (s : State) (d : Chain (Delay Word)) (n : Nat) :
    (s.setDelay .ch0 d n).errUnmap = s.errUnmap := rfl

@[simp] theorem setDelay_ch0_errRo (s : State) (d : Chain (Delay Word)) (n : Nat) :
    (s.setDelay .ch0 d n).errRo = s.errRo := rfl

@[simp] theorem setDelay_ch0_sr (s : State) (d : Chain (Delay Word)) (n : Nat) :
    (s.setDelay .ch0 d n).sr = s.sr := rfl

@[simp] theorem setDelay_ch0_params (s : State) (d : Chain (Delay Word)) (n : Nat) :
    (s.setDelay .ch0 d n).params = s.params := rfl

@[simp] theorem setDelay_ch0_port (s : State) (d : Chain (Delay Word)) (n : Nat) :
    (s.setDelay .ch0 d n).port = s.port := rfl

@[simp] theorem setDelay_ch0_cpQueue (s : State) (d : Chain (Delay Word)) (n : Nat) :
    (s.setDelay .ch0 d n).cpQueue = s.cpQueue := rfl

@[simp] theorem setDelay_ch0_rpQueue (s : State) (d : Chain (Delay Word)) (n : Nat) :
    (s.setDelay .ch0 d n).rpQueue = s.rpQueue := rfl

@[simp] theorem setDelay_ch0_schedule (s : State) (d : Chain (Delay Word)) (n : Nat) :
    (s.setDelay .ch0 d n).schedule = s.schedule := rfl

@[simp] theorem setDelay_ch0_turns (s : State) (d : Chain (Delay Word)) (n : Nat) :
    (s.setDelay .ch0 d n).turns = s.turns := rfl

@[simp] theorem setDelay_ch0_responses (s : State) (d : Chain (Delay Word)) (n : Nat) :
    (s.setDelay .ch0 d n).responses = s.responses := rfl

@[simp] theorem setDelay_ch0_draws0 (s : State) (d : Chain (Delay Word)) (n : Nat) :
    (s.setDelay .ch0 d n).draws0 = n := rfl

@[simp] theorem setDelay_ch0_draws1 (s : State) (d : Chain (Delay Word)) (n : Nat) :
    (s.setDelay .ch0 d n).draws1 = s.draws1 := rfl

@[simp] theorem setDelay_ch0_magDraws (s : State) (d : Chain (Delay Word)) (n : Nat) :
    (s.setDelay .ch0 d n).magDraws = s.magDraws := rfl

/-! ## setDelay .ch1 -/

@[simp] theorem setDelay_ch1_staging (s : State) (d : Chain (Delay Word)) (n : Nat) :
    (s.setDelay .ch1 d n).staging = s.staging := rfl

@[simp] theorem setDelay_ch1_pending (s : State) (d : Chain (Delay Word)) (n : Nat) :
    (s.setDelay .ch1 d n).pending = s.pending := rfl

@[simp] theorem setDelay_ch1_a0 (s : State) (d : Chain (Delay Word)) (n : Nat) :
    (s.setDelay .ch1 d n).a0 = s.a0 := rfl

@[simp] theorem setDelay_ch1_a1 (s : State) (d : Chain (Delay Word)) (n : Nat) :
    (s.setDelay .ch1 d n).a1 = s.a1 := rfl

@[simp] theorem setDelay_ch1_d0 (s : State) (d : Chain (Delay Word)) (n : Nat) :
    (s.setDelay .ch1 d n).d0 = s.d0 := rfl

@[simp] theorem setDelay_ch1_d1 (s : State) (d : Chain (Delay Word)) (n : Nat) :
    (s.setDelay .ch1 d n).d1 = d := rfl

@[simp] theorem setDelay_ch1_dirty (s : State) (d : Chain (Delay Word)) (n : Nat) :
    (s.setDelay .ch1 d n).dirty = s.dirty := rfl

@[simp] theorem setDelay_ch1_errIll (s : State) (d : Chain (Delay Word)) (n : Nat) :
    (s.setDelay .ch1 d n).errIll = s.errIll := rfl

@[simp] theorem setDelay_ch1_errPort (s : State) (d : Chain (Delay Word)) (n : Nat) :
    (s.setDelay .ch1 d n).errPort = s.errPort := rfl

@[simp] theorem setDelay_ch1_errUnmap (s : State) (d : Chain (Delay Word)) (n : Nat) :
    (s.setDelay .ch1 d n).errUnmap = s.errUnmap := rfl

@[simp] theorem setDelay_ch1_errRo (s : State) (d : Chain (Delay Word)) (n : Nat) :
    (s.setDelay .ch1 d n).errRo = s.errRo := rfl

@[simp] theorem setDelay_ch1_sr (s : State) (d : Chain (Delay Word)) (n : Nat) :
    (s.setDelay .ch1 d n).sr = s.sr := rfl

@[simp] theorem setDelay_ch1_params (s : State) (d : Chain (Delay Word)) (n : Nat) :
    (s.setDelay .ch1 d n).params = s.params := rfl

@[simp] theorem setDelay_ch1_port (s : State) (d : Chain (Delay Word)) (n : Nat) :
    (s.setDelay .ch1 d n).port = s.port := rfl

@[simp] theorem setDelay_ch1_cpQueue (s : State) (d : Chain (Delay Word)) (n : Nat) :
    (s.setDelay .ch1 d n).cpQueue = s.cpQueue := rfl

@[simp] theorem setDelay_ch1_rpQueue (s : State) (d : Chain (Delay Word)) (n : Nat) :
    (s.setDelay .ch1 d n).rpQueue = s.rpQueue := rfl

@[simp] theorem setDelay_ch1_schedule (s : State) (d : Chain (Delay Word)) (n : Nat) :
    (s.setDelay .ch1 d n).schedule = s.schedule := rfl

@[simp] theorem setDelay_ch1_turns (s : State) (d : Chain (Delay Word)) (n : Nat) :
    (s.setDelay .ch1 d n).turns = s.turns := rfl

@[simp] theorem setDelay_ch1_responses (s : State) (d : Chain (Delay Word)) (n : Nat) :
    (s.setDelay .ch1 d n).responses = s.responses := rfl

@[simp] theorem setDelay_ch1_draws0 (s : State) (d : Chain (Delay Word)) (n : Nat) :
    (s.setDelay .ch1 d n).draws0 = s.draws0 := rfl

@[simp] theorem setDelay_ch1_draws1 (s : State) (d : Chain (Delay Word)) (n : Nat) :
    (s.setDelay .ch1 d n).draws1 = n := rfl

@[simp] theorem setDelay_ch1_magDraws (s : State) (d : Chain (Delay Word)) (n : Nat) :
    (s.setDelay .ch1 d n).magDraws = s.magDraws := rfl

/-! ## setQueue .cp -/

@[simp] theorem setQueue_cp_staging (s : State) (q : List Transaction) :
    (s.setQueue .cp q).staging = s.staging := rfl

@[simp] theorem setQueue_cp_pending (s : State) (q : List Transaction) :
    (s.setQueue .cp q).pending = s.pending := rfl

@[simp] theorem setQueue_cp_a0 (s : State) (q : List Transaction) :
    (s.setQueue .cp q).a0 = s.a0 := rfl

@[simp] theorem setQueue_cp_a1 (s : State) (q : List Transaction) :
    (s.setQueue .cp q).a1 = s.a1 := rfl

@[simp] theorem setQueue_cp_d0 (s : State) (q : List Transaction) :
    (s.setQueue .cp q).d0 = s.d0 := rfl

@[simp] theorem setQueue_cp_d1 (s : State) (q : List Transaction) :
    (s.setQueue .cp q).d1 = s.d1 := rfl

@[simp] theorem setQueue_cp_dirty (s : State) (q : List Transaction) :
    (s.setQueue .cp q).dirty = s.dirty := rfl

@[simp] theorem setQueue_cp_errIll (s : State) (q : List Transaction) :
    (s.setQueue .cp q).errIll = s.errIll := rfl

@[simp] theorem setQueue_cp_errPort (s : State) (q : List Transaction) :
    (s.setQueue .cp q).errPort = s.errPort := rfl

@[simp] theorem setQueue_cp_errUnmap (s : State) (q : List Transaction) :
    (s.setQueue .cp q).errUnmap = s.errUnmap := rfl

@[simp] theorem setQueue_cp_errRo (s : State) (q : List Transaction) :
    (s.setQueue .cp q).errRo = s.errRo := rfl

@[simp] theorem setQueue_cp_sr (s : State) (q : List Transaction) :
    (s.setQueue .cp q).sr = s.sr := rfl

@[simp] theorem setQueue_cp_params (s : State) (q : List Transaction) :
    (s.setQueue .cp q).params = s.params := rfl

@[simp] theorem setQueue_cp_port (s : State) (q : List Transaction) :
    (s.setQueue .cp q).port = s.port := rfl

@[simp] theorem setQueue_cp_cpQueue (s : State) (q : List Transaction) :
    (s.setQueue .cp q).cpQueue = q := rfl

@[simp] theorem setQueue_cp_rpQueue (s : State) (q : List Transaction) :
    (s.setQueue .cp q).rpQueue = s.rpQueue := rfl

@[simp] theorem setQueue_cp_schedule (s : State) (q : List Transaction) :
    (s.setQueue .cp q).schedule = s.schedule := rfl

@[simp] theorem setQueue_cp_turns (s : State) (q : List Transaction) :
    (s.setQueue .cp q).turns = s.turns := rfl

@[simp] theorem setQueue_cp_responses (s : State) (q : List Transaction) :
    (s.setQueue .cp q).responses = s.responses := rfl

@[simp] theorem setQueue_cp_draws0 (s : State) (q : List Transaction) :
    (s.setQueue .cp q).draws0 = s.draws0 := rfl

@[simp] theorem setQueue_cp_draws1 (s : State) (q : List Transaction) :
    (s.setQueue .cp q).draws1 = s.draws1 := rfl

@[simp] theorem setQueue_cp_magDraws (s : State) (q : List Transaction) :
    (s.setQueue .cp q).magDraws = s.magDraws := rfl

/-! ## setQueue .rp -/

@[simp] theorem setQueue_rp_staging (s : State) (q : List Transaction) :
    (s.setQueue .rp q).staging = s.staging := rfl

@[simp] theorem setQueue_rp_pending (s : State) (q : List Transaction) :
    (s.setQueue .rp q).pending = s.pending := rfl

@[simp] theorem setQueue_rp_a0 (s : State) (q : List Transaction) :
    (s.setQueue .rp q).a0 = s.a0 := rfl

@[simp] theorem setQueue_rp_a1 (s : State) (q : List Transaction) :
    (s.setQueue .rp q).a1 = s.a1 := rfl

@[simp] theorem setQueue_rp_d0 (s : State) (q : List Transaction) :
    (s.setQueue .rp q).d0 = s.d0 := rfl

@[simp] theorem setQueue_rp_d1 (s : State) (q : List Transaction) :
    (s.setQueue .rp q).d1 = s.d1 := rfl

@[simp] theorem setQueue_rp_dirty (s : State) (q : List Transaction) :
    (s.setQueue .rp q).dirty = s.dirty := rfl

@[simp] theorem setQueue_rp_errIll (s : State) (q : List Transaction) :
    (s.setQueue .rp q).errIll = s.errIll := rfl

@[simp] theorem setQueue_rp_errPort (s : State) (q : List Transaction) :
    (s.setQueue .rp q).errPort = s.errPort := rfl

@[simp] theorem setQueue_rp_errUnmap (s : State) (q : List Transaction) :
    (s.setQueue .rp q).errUnmap = s.errUnmap := rfl

@[simp] theorem setQueue_rp_errRo (s : State) (q : List Transaction) :
    (s.setQueue .rp q).errRo = s.errRo := rfl

@[simp] theorem setQueue_rp_sr (s : State) (q : List Transaction) :
    (s.setQueue .rp q).sr = s.sr := rfl

@[simp] theorem setQueue_rp_params (s : State) (q : List Transaction) :
    (s.setQueue .rp q).params = s.params := rfl

@[simp] theorem setQueue_rp_port (s : State) (q : List Transaction) :
    (s.setQueue .rp q).port = s.port := rfl

@[simp] theorem setQueue_rp_cpQueue (s : State) (q : List Transaction) :
    (s.setQueue .rp q).cpQueue = s.cpQueue := rfl

@[simp] theorem setQueue_rp_rpQueue (s : State) (q : List Transaction) :
    (s.setQueue .rp q).rpQueue = q := rfl

@[simp] theorem setQueue_rp_schedule (s : State) (q : List Transaction) :
    (s.setQueue .rp q).schedule = s.schedule := rfl

@[simp] theorem setQueue_rp_turns (s : State) (q : List Transaction) :
    (s.setQueue .rp q).turns = s.turns := rfl

@[simp] theorem setQueue_rp_responses (s : State) (q : List Transaction) :
    (s.setQueue .rp q).responses = s.responses := rfl

@[simp] theorem setQueue_rp_draws0 (s : State) (q : List Transaction) :
    (s.setQueue .rp q).draws0 = s.draws0 := rfl

@[simp] theorem setQueue_rp_draws1 (s : State) (q : List Transaction) :
    (s.setQueue .rp q).draws1 = s.draws1 := rfl

@[simp] theorem setQueue_rp_magDraws (s : State) (q : List Transaction) :
    (s.setQueue .rp q).magDraws = s.magDraws := rfl

/-! ## The channels' views -/

@[simp] theorem active_ch0 (s : State) : s.active .ch0 = s.a0 := rfl

@[simp] theorem active_ch1 (s : State) : s.active .ch1 = s.a1 := rfl

@[simp] theorem delay_ch0 (s : State) : s.delay .ch0 = s.d0 := rfl

@[simp] theorem delay_ch1 (s : State) : s.delay .ch1 = s.d1 := rfl

@[simp] theorem draws_ch0 (s : State) : s.draws .ch0 = s.draws0 := rfl

@[simp] theorem draws_ch1 (s : State) : s.draws .ch1 = s.draws1 := rfl

@[simp] theorem queue_cp (s : State) : s.queue .cp = s.cpQueue := rfl

@[simp] theorem queue_rp (s : State) : s.queue .rp = s.rpQueue := rfl

@[simp] theorem respond_active (s : State) (r : Response) (ch : Channel) :
    (s.respond r).active ch = s.active ch := by cases ch <;> rfl

@[simp] theorem respond_delay (s : State) (r : Response) (ch : Channel) :
    (s.respond r).delay ch = s.delay ch := by cases ch <;> rfl

@[simp] theorem raiseErr_active (k : Err) (w : Width) (s : State) (ch : Channel) :
    (raiseErr k w s).active ch = s.active ch := by cases k <;> cases ch <;> rfl

@[simp] theorem raiseErr_delay (k : Err) (w : Width) (s : State) (ch : Channel) :
    (raiseErr k w s).delay ch = s.delay ch := by cases k <;> cases ch <;> rfl

@[simp] theorem setDelay_active (s : State) (c : Channel) (d : Chain (Delay Word)) (n : Nat) (ch : Channel) :
    (s.setDelay c d n).active ch = s.active ch := by cases c <;> cases ch <;> rfl

@[simp] theorem setDelay_delay_self (s : State) (ch : Channel) (d : Chain (Delay Word)) (n : Nat) :
    (s.setDelay ch d n).delay ch = d := by cases ch <;> rfl

@[simp] theorem setDelay_draws_self (s : State) (ch : Channel) (d : Chain (Delay Word)) (n : Nat) :
    (s.setDelay ch d n).draws ch = n := by cases ch <;> rfl

theorem setDelay_delay_other (s : State) (ch ch' : Channel) (d : Chain (Delay Word)) (n : Nat)
    (h : ch' ≠ ch) : (s.setDelay ch d n).delay ch' = s.delay ch' := by
  cases ch <;> cases ch' <;> first | rfl | exact absurd rfl h

theorem setDelay_same (s : State) (ch : Channel) : s.setDelay ch (s.delay ch) (s.draws ch) = s := by
  cases ch <;> rfl

@[simp] theorem commit_active (s : State) (ch : Channel) :
    s.commit.active ch = commitActive s.pending (s.active ch) := by cases ch <;> rfl

@[simp] theorem commit_delay (s : State) (ch : Channel) : s.commit.delay ch = s.delay ch := by cases ch <;> rfl

@[simp] theorem queue_setQueue_self (s : State) (p : Port) (q : List Transaction) :
    (s.setQueue p q).queue p = q := by cases p <;> rfl

end Sys2Proof.Machine
end

