-- ==== Sys2Proof/Laws/Ops.lean ====
section
/-! SUPPORT. For each shared operation, one lemma that says what it can do. -/

namespace Sys2Proof.Machine

/-! ## Checks and answers -/

/-- A command restricted to a port runs there and raises PORT elsewhere. -/
theorem onlyOn_next {p : Port} {w : Width} {s run t : State} (h : onlyOn p w s run = .next t) :
    (s.port = p ∧ t = run) ∨ (s.port ≠ p ∧ t = raiseErr .port w s) := by
  unfold onlyOn at h
  split at h
  · exact .inl ⟨‹_›, by injection h with h; exact h.symm⟩
  · exact .inr ⟨‹_›, by injection h with h; exact h.symm⟩

theorem onlyOn_self {p : Port} {w : Width} {s run : State} (h : s.port = p) : onlyOn p w s run = .next run := by
  simp [onlyOn, h]

theorem onlyOn_other {p : Port} {w : Width} {s run : State} (h : s.port ≠ p) :
    onlyOn p w s run = .next (raiseErr .port w s) := by
  simp [onlyOn, h]

theorem onlyOn_isNext (p : Port) (w : Width) (s run : State) : ∃ t, onlyOn p w s run = .next t := by
  unfold onlyOn
  split <;> exact ⟨_, rfl⟩

/-! ## Registers -/

/-- What WRREG can do after the port check. -/
theorem writeRegister_cases (idx : RegIdx) (data : Word) (s : State) :
    (regAt idx = none ∧ writeRegister idx data s = raiseErr .unmap .w32 s) ∨
    (∃ r, regAt idx = some r ∧ regWritable r = true ∧
      writeRegister idx data s = (regWrite s r data).respond (.w32 0)) ∨
    (∃ r, regAt idx = some r ∧ regWritable r = false ∧ writeRegister idx data s = raiseErr .ro .w32 s) := by
  unfold writeRegister
  cases h : regAt idx with
  | none => exact .inl ⟨rfl, rfl⟩
  | some r =>
    cases hw : regWritable r with
    | true => exact .inr (.inl ⟨r, rfl, hw, by simp [hw]⟩)
    | false => exact .inr (.inr ⟨r, rfl, hw, by simp [hw]⟩)

/-- A register write touches S and SR only. -/
theorem regWrite_eq (s : State) (r : Reg) (v : Word) :
    regWrite s r v = { s with staging := (regWrite s r v).staging, sr := (regWrite s r v).sr } := by
  cases r <;> rfl

/-- A bank's slot after a slot is replaced. -/
theorem Bank.get_set {α : Type} (b : Bank α) (i j : BitVec 2) (v : α) :
    (b.set i v).get j = if j = i then v else b.get j := by
  have hi : i = 0 ∨ i = 1 ∨ i = 2 ∨ i = 3 := by revert i; decide
  have hj : j = 0 ∨ j = 1 ∨ j = 2 ∨ j = 3 := by revert j; decide
  rcases hi with rfl | rfl | rfl | rfl <;> rcases hj with rfl | rfl | rfl | rfl <;> rfl

/-- A channel's stage after a stage is replaced. -/
theorem Chain.get_set {α : Type} (c : Chain α) (st st' : StageId) (v : α) :
    (c.set st v).get st' = if st' = st then v else c.get st' := by
  cases st <;> cases st' <;> simp [Chain.set, Chain.get, Bank.get_set]

/-- A coefficient of a set after a coefficient is replaced. -/
theorem Coefs.get_set (c : Coefs Word) (k k' : CoefIdx) (v : Word) :
    Coefs.get (Coefs.set c k v) k' = if k' = k then v else Coefs.get c k' := by
  cases k <;> cases k' <;> rfl

/-! ## Magnitude queries -/

/-- What a query can do: answer the NaN, or the value of its function. -/
theorem query_cases (s : State) (freq : Word) (eval : DWord → DWord → Nat → DWord × Nat) :
    (queryPoint freq s.sr = none ∧ s.query freq eval = s.respond (.w64 queryNaN)) ∨
    (∃ f fs, queryPoint freq s.sr = some (f, fs) ∧
      s.query freq eval =
        ({ s with magDraws := (eval f fs s.magDraws).2 } : State).respond (.w64 (eval f fs s.magDraws).1)) := by
  unfold State.query
  cases h : queryPoint freq s.sr with
  | none => exact .inl ⟨rfl, rfl⟩
  | some q => exact .inr ⟨q.1, q.2, rfl, rfl⟩

/-! ## Results of arithmetic -/

/-- A result is a drawn NaN, which advances the draw counter, or it leaves the counter. -/
theorem write32_draws (mode : DenormMode) (ch : Channel) (x : Nat) (r : Fp) (n : Nat) :
    (r = .nan ∧ write32 mode ch x r n = (quietNaN32 (Config.nanDraw32 ch n), n + 1)) ∨
    (r ≠ .nan ∧ (write32 mode ch x r n).2 = n) := by
  cases r with
  | nan => exact .inl ⟨rfl, rfl⟩
  | inf s => exact .inr ⟨by simp, rfl⟩
  | fin s m => exact .inr ⟨by simp, rfl⟩

/-- The same for binary64. -/
theorem write64_draws (x : Nat) (r : Fp) (n : Nat) :
    (r = .nan ∧ write64 x r n = (quietNaN64 (Config.nanDraw64 n), n + 1)) ∨
    (r ≠ .nan ∧ (write64 x r n).2 = n) := by
  cases r with
  | nan => exact .inl ⟨rfl, rfl⟩
  | inf s => exact .inr ⟨by simp, rfl⟩
  | fin s m => exact .inr ⟨by simp, rfl⟩

/-- A stage slot whose flag is clear passes everything. -/
theorem stageWhen_off {α : Type} (form : StageForm) (ar : Arith α) (c : Coefs α) (d : Delay α) (x : α) (n : Nat) :
    stageWhen false form ar c d x n = ⟨x, d, n⟩ := rfl

/-- A stage slot whose flag is set processes. -/
theorem stageWhen_on {α : Type} (form : StageForm) (ar : Arith α) (c : Coefs α) (d : Delay α) (x : α) (n : Nat) :
    stageWhen true form ar c d x n = stageProcess form ar c d x n := rfl

/-- A bank of a bypassed section passes everything. -/
theorem bankWhen_off {α : Type} (form : StageForm) (ar : Arith α) (act : Bank Bool) (c : Bank (Coefs α))
    (d : Bank (Delay α)) (x : α) (n : Nat) : bankWhen false form ar act c d x n = ⟨x, d, n⟩ := rfl

/-! ## Fetching -/

/-- What a turn can be, and that taking it touches the schedule and the choice counter only. -/
theorem takeTurn_frame (s : State) :
    s.takeTurn.2 = { s with schedule := s.takeTurn.2.schedule, turns := s.takeTurn.2.turns } := by
  unfold State.takeTurn
  cases s.schedule with
  | cons t rest => rfl
  | nil => dsimp only; split <;> [skip; split] <;> rfl

/-- Serving a port: nothing waits there, or its oldest transaction is decoded. -/
theorem servePort_cases (p : Port) (s : State) :
    (s.queue p = [] ∧ servePort p s = .idle s) ∨
    (∃ t rest, s.queue p = t :: rest ∧ servePort p s = fetchTransaction p t (s.setQueue p rest)) := by
  unfold servePort
  cases h : s.queue p with
  | nil => exact .inl ⟨rfl, rfl⟩
  | cons t rest => exact .inr ⟨t, rest, rfl, rfl⟩

/-- A transaction is a command or illegal. -/
theorem fetchTransaction_cases (p : Port) (t : Transaction) (s : State) :
    (∃ i, decode t = .ok i ∧ fetchTransaction p t s = .command i { s with port := p }) ∨
    (∃ e, decode t = .error e ∧
      fetchTransaction p t s = .illegal e (responseWidth (opField t.word)) { s with port := p }) := by
  unfold fetchTransaction
  cases h : decode t with
  | ok i => exact .inl ⟨i, rfl, rfl⟩
  | error e => exact .inr ⟨e, rfl, rfl⟩

/-- What a step can do. -/
theorem step_cases (s : State) :
    (∃ s', fetch s = .idle s' ∧ step s = .next s') ∨
    (∃ s', fetch s = .reset s' ∧ step s = .next s'.resetBlock) ∨
    (∃ i s', fetch s = .command i s' ∧ step s = exec i s') ∨
    (∃ e w s', fetch s = .illegal e w s' ∧ step s = .next (raiseErr .ill w s')) := by
  unfold step
  cases h : fetch s with
  | idle s' => exact .inl ⟨s', rfl, rfl⟩
  | reset s' => exact .inr (.inl ⟨s', rfl, rfl⟩)
  | command i s' => exact .inr (.inr (.inl ⟨i, s', rfl, rfl⟩))
  | illegal e w s' => exact .inr (.inr (.inr ⟨e, w, s', rfl, rfl⟩))

end Sys2Proof.Machine
end

