-- ==== Sys2Proof/Laws/PerInstr.lean ====
section
/-! SUPPORT. For each command: the word its encoding gives matches the row's match and mask in
spec/opcode_table.json, and its transaction has the number of words the row gives (R43, R46). -/

namespace Sys2Proof.Laws.RowMatch

open Sys2Proof.Machine

/-- The row's mask. -/
def rowMask : Instr → Word
  | .nop => 0xFFFFFFFF
  | .wrreg _ _ => 0xFFFFF000
  | .rdreg _ => 0xFFFFF000
  | .publish => 0xFFFFFFFF
  | .sync => 0xFFFFFFFF
  | .force => 0xFFFFFFFF
  | .proc _ _ => 0xFFFFFFFE
  | .magqDb _ _ => 0xFFFFFFBF
  | .magqLin _ _ => 0xFFFFFFBF
  | .magqSec _ _ _ => 0xFFFFFFB3
  | .magqStg _ _ _ _ => 0xFFFFFF83
  | .reservedOp _ _ _ => 0x80000000

/-- The row's match. -/
def rowValue : Instr → Word
  | .nop => 0x00000000
  | .wrreg _ _ => 0x10000000
  | .rdreg _ => 0x20000000
  | .publish => 0x30000000
  | .sync => 0x40000000
  | .force => 0x50000000
  | .proc _ _ => 0x60000000
  | .magqDb _ _ => 0x70000000
  | .magqLin _ _ => 0x70000001
  | .magqSec _ _ _ => 0x70000002
  | .magqStg _ _ _ _ => 0x70000003
  | .reservedOp _ _ _ => 0x80000000

/-- Whether the row's transaction has a data word; a reserved opcode's may or may not (R43). -/
def rowHasData : Instr → Option Bool
  | .nop => some false
  | .wrreg _ _ => some true
  | .rdreg _ => some false
  | .publish => some false
  | .sync => some false
  | .force => some false
  | .proc _ _ => some true
  | .magqDb _ _ => some true
  | .magqLin _ _ => some true
  | .magqSec _ _ _ => some true
  | .magqStg _ _ _ _ => some true
  | .reservedOp _ _ _ => none

/-- A well-formed command's transaction is one of its row. -/
def Statement (i : Instr) : Prop :=
  i.WellFormed → (encode i).word &&& rowMask i = rowValue i ∧
    ∀ b, rowHasData i = some b → (encode i).data.isSome = b

theorem nop : Statement .nop := fun _ => ⟨rfl, by simp [rowHasData, encode]⟩

/-- The mask of a format R row leaves OP and the reserved bits. -/
theorem wordR_masked (op : BitVec 4) (idx : RegIdx) :
    wordR op idx &&& 0xFFFFF000 = wordR op 0 := by
  have h : (0xFFFFF000 : Word) = BitVec.allOnes 4 ++ BitVec.allOnes 16 ++ (0 : BitVec 12) := by decide
  have h4 : ∀ o : BitVec 4, o &&& 15#4 = o := by decide
  rw [h, wordR, wordR, BitVec.and_append, BitVec.and_append]
  simp [h4]

theorem wordR_one : wordR 1 0 = 0x10000000 := by decide

theorem wordR_two : wordR 2 0 = 0x20000000 := by decide

/-- A format P word under its row's mask. -/
theorem wordP_masked (ch : Channel) : wordP ch &&& 0xFFFFFFFE = 0x60000000 := by cases ch <;> decide

/-- The four stage numbers. -/
theorem stg_cases (b : BitVec 2) : b = 0 ∨ b = 1 ∨ b = 2 ∨ b = 3 := by revert b; decide

/-- A format M word of MAGQ.DB or MAGQ.LIN under its row's mask. -/
theorem wordM_masked (ch : Channel) : wordM ch 0 0 0 &&& 0xFFFFFFBF = 0x70000000 ∧
    wordM ch 0 0 1 &&& 0xFFFFFFBF = 0x70000001 := by cases ch <;> decide

/-- A format M word of MAGQ.SEC under its row's mask. -/
theorem wordM_sec_masked (ch : Channel) (sec : Section) :
    wordM ch 0 (sectionBits sec) 2 &&& 0xFFFFFFB3 = 0x70000002 := by cases ch <;> cases sec <;> decide

/-- A format M word of MAGQ.STG under its row's mask. -/
theorem wordM_stg_masked (ch : Channel) (sec : Section) (stg : BitVec 2) :
    wordM ch stg (sectionBits sec) 3 &&& 0xFFFFFF83 = 0x70000003 := by
  rcases stg_cases stg with rfl | rfl | rfl | rfl <;> cases ch <;> cases sec <;> decide

theorem wrreg (idx : RegIdx) (data : Word) : Statement (.wrreg idx data) := fun _ =>
  ⟨(wordR_masked 1 idx).trans wordR_one, by simp [rowHasData, encode]⟩

theorem rdreg (idx : RegIdx) : Statement (.rdreg idx) := fun _ =>
  ⟨(wordR_masked 2 idx).trans wordR_two, by simp [rowHasData, encode]⟩

theorem publish : Statement .publish := fun _ => ⟨rfl, by simp [rowHasData, encode]⟩

theorem sync : Statement .sync := fun _ => ⟨rfl, by simp [rowHasData, encode]⟩

theorem force : Statement .force := fun _ => ⟨rfl, by simp [rowHasData, encode]⟩

theorem proc (ch : Channel) (sample : Word) : Statement (.proc ch sample) := fun _ =>
  ⟨wordP_masked ch, by simp [rowHasData, encode]⟩

theorem magqDb (ch : Channel) (freq : Word) : Statement (.magqDb ch freq) := fun _ =>
  ⟨(wordM_masked ch).1, by simp [rowHasData, encode]⟩

theorem magqLin (ch : Channel) (freq : Word) : Statement (.magqLin ch freq) := fun _ =>
  ⟨(wordM_masked ch).2, by simp [rowHasData, encode]⟩

theorem magqSec (ch : Channel) (sec : Section) (freq : Word) : Statement (.magqSec ch sec freq) := fun _ =>
  ⟨wordM_sec_masked ch sec, by simp [rowHasData, encode]⟩

theorem magqStg (ch : Channel) (sec : Section) (stg : BitVec 2) (freq : Word) :
    Statement (.magqStg ch sec stg freq) := fun _ =>
  ⟨wordM_stg_masked ch sec stg, by simp [rowHasData, encode]⟩

theorem reservedOp (op : BitVec 4) (low : BitVec 28) (data : Option Word) :
    Statement (.reservedOp op low data) := fun h => by
  refine ⟨?_, by simp [rowHasData]⟩
  have hm : ∀ o : BitVec 4, o.msb = true → o &&& 8 = 8 := by decide
  have h1 : (0x80000000 : Word) = (8 : BitVec 4) ++ (0 : BitVec 28) := by decide
  show (op ++ low : BitVec 32) &&& 0x80000000 = 0x80000000
  rw [h1, BitVec.and_append, hm op h]
  simp

end Sys2Proof.Laws.RowMatch
end

