-- ==== Sys2Proof/Tests/Slice0.lean ====
section
/-! SUPPORT. Tests whose expected results come from the spec (its examples and 95_test_vectors.md), the
WellFormed smoke tests, and for each statement with hypotheses a witness that meets them together. -/

namespace Sys2Proof.Tests

open Sys2Proof.Machine

/-! ## WellFormed: each check refuses an ill-formed term -/

theorem test_wf_refuses_peak_stage_one : ¬ (Instr.magqStg .ch0 .pk 1 0).WellFormed := by decide

theorem test_wf_refuses_reserved_op_seven : ¬ (Instr.reservedOp 7 0 none).WellFormed := by decide

theorem test_wf_admits : (Instr.magqStg .ch0 .pk 0 0).WellFormed ∧ (Instr.magqStg .ch1 .hc 3 0).WellFormed ∧
    (Instr.reservedOp 8 0 none).WellFormed := by decide

/-! ## Decoding: words written out by hand from R44 and R46 -/

theorem test_decode_nop : decode ⟨0x00000000, none⟩ = .ok .nop := by decide

theorem test_decode_wrreg : decode ⟨0x10000020, some 0x40000000⟩ = .ok (.wrreg 0x020 0x40000000) := by decide

theorem test_decode_rdreg : decode ⟨0x20000400, none⟩ = .ok (.rdreg 0x400) := by decide

theorem test_decode_publish : decode ⟨0x30000000, none⟩ = .ok .publish := by decide

theorem test_decode_sync : decode ⟨0x40000000, none⟩ = .ok .sync := by decide

theorem test_decode_force : decode ⟨0x50000000, none⟩ = .ok .force := by decide

theorem test_decode_proc : decode ⟨0x60000001, some 0xBE800000⟩ = .ok (.proc .ch1 0xBE800000) := by decide

theorem test_decode_magqDb : decode ⟨0x70000040, some 0x447A0000⟩ = .ok (.magqDb .ch1 0x447A0000) := by decide

theorem test_decode_magqLin : decode ⟨0x70000041, some 0x42480000⟩ = .ok (.magqLin .ch1 0x42480000) := by decide

theorem test_decode_magqSec : decode ⟨0x7000004A, some 0x447A0000⟩ = .ok (.magqSec .ch1 .hc 0x447A0000) := by
  decide

theorem test_decode_magqStg : decode ⟨0x7000003B, some 0x447A0000⟩ = .ok (.magqStg .ch0 .hc 3 0x447A0000) := by
  decide

theorem test_decode_reserved : decode ⟨0xF0000000, some 0⟩ = .ok (.reservedOp 0xF 0 (some 0)) := by decide

theorem test_decode_refuses_reserved_bits :
    decode ⟨0x00000001, none⟩ = .error .reservedBits ∧ decode ⟨0x20001000, none⟩ = .error .reservedBits ∧
    decode ⟨0x60000002, some 0x3F800000⟩ = .error .reservedBits ∧
    decode ⟨0x70000080, some 0x447A0000⟩ = .error .reservedBits := by decide

theorem test_decode_refuses_wrong_length :
    decode ⟨0x00000000, some 0⟩ = .error .extraData ∧ decode ⟨0x20000412, some 0⟩ = .error .extraData ∧
    decode ⟨0x60000001, none⟩ = .error .missingData ∧ decode ⟨0x10000080, none⟩ = .error .missingData := by decide

theorem test_decode_refuses_magq_fields :
    decode ⟨0x70000004, some 0x447A0000⟩ = .error .badSection ∧
    decode ⟨0x70000010, some 0x447A0000⟩ = .error .badStage ∧
    decode ⟨0x70000012, some 0x447A0000⟩ = .error .badStage ∧
    decode ⟨0x7000000E, some 0x447A0000⟩ = .error .badSection ∧
    decode ⟨0x7000000F, some 0x447A0000⟩ = .error .badSection ∧
    decode ⟨0x70000017, some 0x447A0000⟩ = .error .badStage := by decide

theorem test_table_word : decodeTableWord 32 0x60000001 = some (.proc .ch1 0) ∧
    decodeTableWord 32 0x80000000 = some (.reservedOp 8 0 none) ∧ decodeTableWord 32 0x7000000F = none := by decide

/-! ## Registers (R19, V-R5, V-R6) -/

theorem test_register_indices : regIndex (.sCoef (.hc 1) .a1) = 0x04B ∧ regIndex (.delay .ch1 .pk .j1) = 0x3A1 ∧
    regAt 0x05C = some (.sCoef (.hc 3) .a2) ∧ regAt 0x2A0 = some (.aCoef .ch1 .pk .b0) := by decide

theorem test_unmapped_indices : regAt 0x005 = none ∧ regAt 0x028 = none ∧ regAt 0x060 = none ∧
    regAt 0x302 = none ∧ regAt 0x3FF = none ∧ regAt 0x402 = none ∧ regAt 0x800 = none ∧ regAt 0xFFF = none := by
  decide

/-! ## Arithmetic and stages (95_test_vectors.md V-S1, V-S4, V-S5, V-S7, V-C3, R64) -/

/-- `CA` of V-S1. -/
def setCA : Coefs Word := ⟨0x3E800000, 0x3F000000, 0x3E800000, 0xBF000000, 0x3E800000⟩

/-- V-S1, row 2: the state of row 1 and input 0. -/
theorem test_stage_df2 : stageProcess .df2 (arith32 .ieee .ch0) setCA ⟨0x3F000000, 0x3F800000⟩ 0 0 =
    ⟨0x3F000000, ⟨0x00000000, 0x3F000000⟩, 0⟩ := by decide +kernel

/-- V-S1, row 2 in TDF2. -/
theorem test_stage_tdf2 : stageProcess .tdf2 (arith32 .ieee .ch0) setCA ⟨0x3F000000, 0xBE200000⟩ 0 0 =
    ⟨0x3F000000, ⟨0x3DC00000, 0xBE000000⟩, 0⟩ := by decide +kernel

/-- V-S5: an overflow in DF2 leaves a finite node. -/
theorem test_stage_overflow : stageProcess .df2 (arith32 .ieee .ch0) ⟨0x40000000, 0, 0, 0, 0⟩ ⟨0, 0⟩ 0x7F61B1E6 0 =
    ⟨0x7F800000, ⟨0x7F61B1E6, 0⟩, 0⟩ := by decide +kernel

/-- V-S4: the draw counter shows that the second output after +inf is a NaN, from `0 × inf`. -/
theorem test_stage_infinity_poisons :
    (mul32 .ieee .ch0 0 0x7F800000 0).2 = 1 ∧ (sub32 .ieee .ch0 0x7F800000 0x7F800000 4).2 = 5 := by decide +kernel

/-- V-S7: ties to even in the subnormals, and FTZ_DAZ. -/
theorem test_subnormal_modes : (mul32 .ieee .ch0 0x3F000000 0x00000003 0).1 = 0x00000002 ∧
    (mul32 .ftzDaz .ch0 0x3F000000 0x00000003 0).1 = 0 ∧
    (mul32 .ftzDaz .ch0 0x3F800000 0x80000001 0).1 = 0x80000000 := by decide +kernel

/-- V-C3: 0.7 times 3, then times 0.1. -/
theorem test_products_round : (mul32 .ieee .ch0 0x3DCCCCCD (mul32 .ieee .ch0 0x40400000 0x3F333333 0).1 0).1 =
    0x3E570A3D := by decide +kernel

/-- 2.0 times 3.0 times 5.0 in binary64 (V-M2). -/
theorem test_mul64 : (mul64 0x4014000000000000 (mul64 0x4008000000000000 0x4000000000000000 0).1 0).1 =
    0x403E000000000000 := by decide +kernel

/-- Literals of 95_test_vectors.md: f:0.1, f:3.0e38 and f:-0.25. -/
theorem test_decimals : decimal32 false 1 1 = 0x3DCCCCCD ∧ decimal32 false (3 * 10 ^ 38) 0 = 0x7F61B1E6 ∧
    decimal32 true 25 2 = 0xBE800000 := by decide +kernel

/-! ## Steps: a transaction placed next, then one step -/

/-- The responses after one step that serves a transaction. -/
def responseTo (s : State) (p : Port) (word : Word) (data : Option Word) : Option (Port × Response) :=
  match step (s.issueNext p ⟨word, data⟩) with
  | .next t => t.responses.head?
  | _ => none

/-- A register after one step that serves a transaction. -/
def registerAfter (s : State) (p : Port) (word : Word) (data : Option Word) (r : Reg) : Option Word :=
  match step (s.issueNext p ⟨word, data⟩) with
  | .next t => some (regRead t r)
  | _ => none

/-- PK a gain of 2, LC and HC bypassed, in S and P (program P1), not committed. -/
def staged : State :=
  let coef := (Chain.const identityCoefs).set .pk ⟨0x40000000, 0, 0, 0, 0⟩
  { State.reset with staging := ⟨coef, 0x250⟩, pending := ⟨coef, 0x250⟩, dirty := true }

/-- R91: NOP returns 0. -/
theorem test_nop : responseTo State.reset .rp 0x00000000 none = some (.rp, .w32 0) := by decide +kernel

/-- R92's example. -/
theorem test_wrreg : registerAfter State.reset .cp 0x10000020 (some 0x40000000) (.sCoef .pk .b0) =
    some 0x40000000 := by decide +kernel

/-- V-R3: S.CTRL drops its reserved bits. -/
theorem test_wrreg_ctrl : registerAfter State.reset .cp 0x10000080 (some 0xFFFFFFFF) .sCtrl = some 0x0000077F := by
  decide +kernel

/-- V-E2: WRREG of an unmapped index on RP raises PORT, not UNMAP. -/
theorem test_wrreg_priority : registerAfter State.reset .rp 0x10000005 (some 1) .status = some 0x00000200 := by
  decide +kernel

/-- R93's example. -/
theorem test_rdreg : responseTo State.reset .rp 0x20000400 none = some (.rp, .w32 0x00000011) := by decide +kernel

/-- V-E2: RDREG of an unmapped index. -/
theorem test_rdreg_unmapped : registerAfter State.reset .rp 0x20000005 none .status = some 0x00000400 := by
  decide +kernel

/-- R94's example. -/
theorem test_publish : registerAfter State.reset .cp 0x30000000 none .status = some 0x00000001 := by decide +kernel

/-- P1 step 9: SYNC commits and returns 1. -/
theorem test_sync : responseTo staged .rp 0x40000000 none = some (.rp, .w32 1) ∧
    registerAfter staged .rp 0x40000000 none (.chCtrl .ch1) = some 0x00000511 := by decide +kernel

/-- P2's FORCE: an ORD of 1 and a set commit. -/
theorem test_force : responseTo staged .rp 0x50000000 none = some (.rp, .w32 1) ∧
    registerAfter staged .rp 0x50000000 none (.aCoef .ch1 .pk .b0) = some 0x40000000 := by decide +kernel

/-- P1 step 11: PK doubles the sample. -/
theorem test_proc : responseTo staged.commit .rp 0x60000000 (some 0x3FC00000) = some (.rp, .w32 0x40400000) ∧
    registerAfter staged.commit .rp 0x60000000 (some 0x3FC00000) (.delay .ch0 .pk .j0) = some 0x3FC00000 := by
  decide +kernel

/-- V-E2: PROC on CP raises PORT. -/
theorem test_proc_on_cp : registerAfter State.reset .cp 0x60000000 (some 0) .status = some 0x00000200 := by
  decide +kernel

/-- R98's example. -/
theorem test_magqDb : responseTo State.reset .cp 0x70000000 (some 0x447A0000) = some (.cp, .w64 0) := by
  decide +kernel

/-- P1 step 14. -/
theorem test_magqLin : responseTo staged.commit .cp 0x70000001 (some 0x447A0000) =
    some (.cp, .w64 0x4000000000000000) := by decide +kernel

/-- V-M7: an infinite frequency. -/
theorem test_magqLin_infinite : responseTo State.reset .cp 0x70000001 (some 0x7F800000) =
    some (.cp, .w64 0x7FF8000000000000) := by decide +kernel

/-- V-M8: a bypassed section's magnitude is 1.0. -/
theorem test_magqSec : responseTo staged.commit .cp 0x70000002 (some 0x447A0000) =
    some (.cp, .w64 0x3FF0000000000000) := by decide +kernel

/-- R101's example. -/
theorem test_magqStg : responseTo State.reset .cp 0x7000003B (some 0x447A0000) =
    some (.cp, .w64 0x3FF0000000000000) := by decide +kernel

/-- P4 step 10. -/
theorem test_reservedOp : responseTo State.reset .cp 0x80000000 none = some (.cp, .w32 0) ∧
    registerAfter State.reset .cp 0x80000000 none .status = some 0x00000100 := by decide +kernel

/-- V-E3: an illegal SYNC leaves DIRTY; P4 step 12: an illegal MAGQ answers 64 bits. -/
theorem test_illegal : registerAfter staged .cp 0x40000000 (some 0) .status = some 0x00000101 ∧
    responseTo State.reset .cp 0x7000000E (some 0x447A0000) = some (.cp, .w64 0) := by decide +kernel

/-! ## Transport and text -/

/-- R30: little-endian puts bits 7:0 first. -/
theorem test_transport : transactionBytes .little ⟨0x10000020, some 0x40000000⟩ =
    [0x20, 0x00, 0x00, 0x10, 0x00, 0x00, 0x00, 0x40] ∧
    transactionOfBytes .big [0x20, 0x00, 0x04, 0x10] = some ⟨0x20000410, none⟩ := by decide

/-- R48, R49: program text of P2. -/
theorem test_text : (Line.rdreg .rp (.name (.delay .ch0 (.lc 1) .j1))).text = "RP: RDREG D0.LC1.1" ∧
    (Line.wrctrl 1 0 ⟨false, true, true⟩ ⟨true, false, false⟩).text =
      "CP: WRCTRL lc=1, hc=0, byp=PK+HC, val=LC" := by decide

/-- R49: P2's WRCTRL writes 0x161. -/
theorem test_wrctrl : (Line.wrctrl 1 0 ⟨false, true, true⟩ ⟨true, false, false⟩).expand =
    [(.cp, ⟨0x10000080, some 0x00000161⟩)] := by decide

/-! ## Witnesses: states and operands that meet the hypotheses of the statements -/

/-- The reset state as seen by a command of RP. -/
def onRp : State := { State.reset with port := .rp }

/-- All sections of channel 0 bypassed. -/
def bypassed : State := { onRp with a0 := { ActiveSet.reset with byp := ⟨true, true, true⟩ } }

/-- A well-formed command (DecodeOfEncode) and a transaction that decodes (EncodeOfDecode). -/
theorem witness_encoding : (Instr.magqStg .ch1 .hc 3 0x447A0000).WellFormed ∧
    decode ⟨0x7000007B, some 0x447A0000⟩ = .ok (.magqStg .ch1 .hc 3 0x447A0000) := by decide

/-- RegisterMapIsBijective. -/
theorem witness_register : regAt 0x3DF = none ∧ regAt 0x3D9 = some (.delay .ch1 (.hc 3) .j1) := by decide

/-- A state whose next turn serves CP a transaction. -/
def waiting (t : Transaction) : State := { State.reset with cpQueue := [t], schedule := [.serve .cp] }

/-- StepRunsDecodedCommand. -/
theorem witness_step_runs :
    (waiting ⟨0x30000000, none⟩).takeTurn =
      (.serve .cp, { State.reset with cpQueue := [⟨0x30000000, none⟩] }) ∧
    ({ State.reset with cpQueue := [⟨0x30000000, none⟩] } : State).queue .cp = ⟨0x30000000, none⟩ :: [] ∧
    decode ⟨0x30000000, none⟩ = .ok .publish := by decide

/-- ExecuteChecksLegalityThenPort, first clause: a transaction no row admits. -/
theorem witness_illegal :
    (waiting ⟨0x00000001, none⟩).takeTurn =
      (.serve .cp, { State.reset with cpQueue := [⟨0x00000001, none⟩] }) ∧
    ¬ legalTransaction ⟨0x00000001, none⟩ := by
  refine ⟨by decide, ?_⟩
  rintro ⟨r, hr, ⟨h, -⟩, -⟩
  simp only [opcodeRows, List.mem_cons, List.not_mem_nil, or_false] at hr
  rcases hr with rfl | rfl | rfl | rfl | rfl | rfl | rfl | rfl | rfl | rfl | rfl <;> exact absurd h (by decide)

/-- ExecuteChecksLegalityThenPort, second and third clauses: PROC on CP, and PUBLISH on CP. -/
theorem witness_ports :
    legalTransaction ⟨0x60000000, some 0⟩ ∧ decode ⟨0x60000000, some 0⟩ = .ok (.proc .ch0 0) ∧
    mayIssue (.proc .ch0 0) .cp = false ∧
    legalTransaction ⟨0x30000000, none⟩ ∧ decode ⟨0x30000000, none⟩ = .ok .publish ∧
    mayIssue .publish .cp = true ∧
    (waiting ⟨0x60000000, some 0⟩).takeTurn =
      (.serve .cp, { State.reset with cpQueue := [⟨0x60000000, some 0⟩] }) := by
  refine ⟨⟨⟨0x60000000, 0xFFFFFFFE, 2, fun _ => true⟩, by simp [opcodeRows], ⟨by decide, rfl⟩, by decide⟩,
    by decide, by decide, ⟨⟨0x30000000, 0xFFFFFFFF, 1, fun _ => true⟩, by simp [opcodeRows], ⟨by decide, rfl⟩,
    by decide⟩, by decide, by decide, by decide⟩

/-- StepServesOnePortInIssueOrder, StepKeepsInvariant, ErrorBitsAreSticky, StepKeepsParameters: a state
with the invariant and an error bit set, whose step answers. -/
theorem witness_step : ({ State.reset with errRo := true } : State).Inv ∧
    step { State.reset with errRo := true } = .next { State.reset with errRo := true } ∧
    ({ State.reset with errRo := true } : State).schedule.head? ≠ some .reset := ⟨by decide, rfl, by decide⟩

/-- The three other error bits. -/
theorem witness_step_errors :
    step { State.reset with errIll := true, errPort := true, errUnmap := true } =
      .next { State.reset with errIll := true, errPort := true, errUnmap := true } := rfl

/-- IdleTurnHoldsTheBlock and ResetEventRestoresResetState. -/
theorem witness_turns : State.reset.schedule = [] ∧ State.reset.cpQueue = [] ∧ State.reset.rpQueue = [] ∧
    ({ State.reset with schedule := [.serve .rp, .reset] } : State).schedule = .serve .rp :: [.reset] ∧
    ({ State.reset with schedule := [.serve .rp, .reset] } : State).queue .rp = [] ∧
    ({ State.reset with schedule := [.reset], dirty := true } : State).schedule = .reset :: [] := by decide

/-- OnlyProcWritesDelayState and BuffersHaveOneWriterEach. -/
theorem witness_exec : exec .nop State.reset = .next (State.reset.respond (.w32 0)) ∧
    (∀ ch x, Instr.nop ≠ .proc ch x) ∧ (∀ idx data, Instr.nop ≠ .wrreg idx data) ∧ Instr.nop ≠ .publish ∧
    Instr.nop ≠ .sync ∧ Instr.nop ≠ .force := by
  refine ⟨rfl, ?_, ?_, ?_, ?_, ?_⟩ <;> intros <;> simp

/-- ErrorChangesOnlyItsBit. -/
theorem witness_error :
    exec (.reservedOp 8 0 none) State.reset = .next (raiseErr .ill .w32 State.reset) ∧
    (raiseErr .ill .w32 State.reset).errorBits ≠ State.reset.errorBits := ⟨rfl, by decide⟩

/-- PortTableIsEnforced: a command a port may not issue, and one it may. -/
theorem witness_port_table : Instr.publish.WellFormed ∧ mayIssue .publish onRp.port = false ∧
    mayIssue .publish State.reset.port = true ∧
    exec .publish State.reset = .next (State.reset.publish.respond (.w32 0)) := ⟨rfl, rfl, rfl, rfl⟩

/-- WriteRegisterStoresAndFrames: the first and last staged coefficients, S.CTRL and SR. -/
theorem witness_writable : State.reset.port = .cp ∧ regAt 0x000 = some (.sCoef (.lc 0) .b0) ∧
    regAt 0x05C = some (.sCoef (.hc 3) .a2) ∧ regAt 0x080 = some .sCtrl ∧ regAt 0x411 = some .sr := by decide

/-- WriteRegisterErrors and ReadRegisterReturnsItOnly: RP, an unmapped index, the first and the last
read-only register. -/
theorem witness_register_errors : onRp.port = .rp ∧ State.reset.port = .cp ∧ regAt 0x05D = none ∧
    regAt 0x100 = some (.pCoef (.lc 0) .b0) ∧ regAt 0x413 = some .cfg := by decide

/-- CfgReportsParameters, its default clause. -/
theorem witness_default_params : State.reset.params = Params.default ∧ State.reset.port = .cp := by decide

/-- SyncTestsAndClearsDirty: both values of DIRTY, and a SYNC that answers. -/
theorem witness_dirty : staged.dirty = true ∧ State.reset.dirty = false ∧
    exec .sync staged = .next (staged.clearAndCommit.respond (.w32 1)) := ⟨rfl, rfl, rfl⟩

/-- SyncAndForceLeaveTheSameState and SwapKeepsDelayState. -/
theorem witness_sync_force : State.reset.CleanMeansCommitted ∧
    exec .sync State.reset = .next (State.reset.respond (.w32 0)) ∧
    exec .force State.reset = .next (State.reset.clearAndCommit.respond (.w32 1)) := ⟨fun _ => rfl, rfl, rfl⟩

/-- SupersededSnapshotLeavesNoTrace. -/
theorem witness_superseded : State.reset.port = .cp ∧
    exec .publish State.reset = .next (State.reset.publish.respond (.w32 0)) ∧
    exec .publish { State.reset.publish.respond (.w32 0) with staging := staged.staging } =
      .next (({ State.reset.publish.respond (.w32 0) with staging := staged.staging } : State).publish.respond
        (.w32 0)) ∧
    exec .publish { State.reset with staging := staged.staging } =
      .next (({ State.reset with staging := staged.staging } : State).publish.respond (.w32 0)) :=
  ⟨rfl, rfl, rfl, rfl⟩

/-- StagedWriteIsInvisible: a staged write that answers, and a query that answers before and after it. -/
theorem witness_staged_write : (0x020 : RegIdx) ≠ 0x411 ∧
    ∃ t, exec (.wrreg 0x020 0x40000000) State.reset = .next t ∧
      (∃ u, exec (.magqStg .ch0 .hc 3 0x447A0000) t = .next u) ∧
      ∃ v, exec (.magqStg .ch0 .hc 3 0x447A0000) State.reset = .next v :=
  ⟨by decide, _, rfl, ⟨_, rfl⟩, ⟨_, rfl⟩⟩

/-- ProcRunsTheChain, BypassedChainPassesBits and FrozenStagesKeepDelayState. -/
theorem witness_proc : bypassed.port = .rp ∧ (bypassed.active .ch0).byp = ⟨true, true, true⟩ ∧
    (∃ t, exec (.proc .ch0 0x7FC12345) bypassed = .next t) ∧ runs (bypassed.active .ch0) .pk = false ∧
    runs (onRp.active .ch0) (.lc 1) = false ∧ Channel.ch1 ≠ .ch0 :=
  ⟨rfl, rfl, ⟨_, rfl⟩, rfl, rfl, by decide⟩

/-- ChannelsProcessIndependently. -/
theorem witness_two_channels : onRp.port = .rp ∧
    exec (.proc .ch0 0x3F800000) onRp = .next (processSample .ch0 0x3F800000 onRp) ∧
    exec (.proc .ch1 0) (processSample .ch0 0x3F800000 onRp) =
      .next (processSample .ch1 0 (processSample .ch0 0x3F800000 onRp)) ∧
    exec (.proc .ch1 0) onRp = .next (processSample .ch1 0 onRp) ∧
    exec (.proc .ch0 0x3F800000) (processSample .ch1 0 onRp) =
      .next (processSample .ch0 0x3F800000 (processSample .ch1 0 onRp)) := ⟨rfl, rfl, rfl, rfl, rfl⟩

/-- ExactOutputsMeetDifferenceEquation. -/
theorem witness_sequence : 2 < ([1, 0, 0] : List ℚ).length := by decide

/-- RoundingIsNearestTiesToEven: its rounding clause, and the largest and least finite operands. -/
theorem witness_rounding : 1 ≤ 23 ∧ isFinite32 0xFF7FFFFF = true ∧ isFinite32 0x00000001 = true ∧
    isFinite64 0xFFEFFFFFFFFFFFFF = true ∧ isFinite64 1 = true := by decide

/-- MultiplyingByOneIsExact: a subnormal, a zero and an infinity under IEEE, a zero, the least normal and an
infinity under FTZ_DAZ, an infinity in binary64. -/
theorem witness_left_alone : isNaN32 0x80000001 = false ∧ isNaN32 0x80000000 = false ∧
    isNaN32 0x7F800000 = false ∧ leftAlone .ieee 0x80000001 = true ∧ leftAlone .ftzDaz 0x80000000 = true ∧
    leftAlone .ftzDaz 0x00800000 = true ∧ leftAlone .ftzDaz 0x7F800000 = true ∧
    isNaN64 0xFFF0000000000000 = false := by decide

/-- NanPoisonsTheStage: the least NaN pattern as input, a NaN in the delay state of each form and in d1
alone, and an infinity with a delay state an identity stage leaves without effect. -/
theorem witness_nan : isNaN32 0x7F800001 = true ∧ poisoned .df2 ⟨0, 0x7FC00000⟩ = true ∧
    poisoned .tdf2 ⟨0xFFC00000, 0⟩ = true ∧ isNaN32 (⟨0, 0x7F800001⟩ : Delay Word).d1 = true ∧
    restfulStage .df2 ⟨0x7F7FFFFF, 0⟩ = true ∧ restfulStage .tdf2 ⟨0x80000000, 0⟩ = true ∧
    absBits32 0xFF800000 = 0x7F800000 ∧ isFinite32 0x7F800000 = false ∧
    nonFiniteState .df2 ⟨0, 0xFF800000⟩ = true ∧ nonFiniteState .tdf2 ⟨0x7F800000, 0⟩ = true := by decide

/-- A state whose peak stage of channel 1 holds a NaN, with a command on RP. -/
def onRpPoisoned : State := { onRp with d1 := { resetDelay with pk := ⟨0x7FC00000, 0⟩ } }

/-- NanPoisonsTheStage, its last clause: a stage that runs, with a NaN in its delay state. -/
theorem witness_poisoned_channel : onRpPoisoned.port = .rp ∧ runs (onRpPoisoned.active .ch1) .pk = true ∧
    nonFiniteState onRpPoisoned.params.form ((onRpPoisoned.delay .ch1).get .pk) = true ∧
    poisoned onRpPoisoned.params.form ((onRpPoisoned.delay .ch1).get .pk) = true := by decide

/-- R61 by hand: `w = 0 − (−1·inf) − (−1·inf)` and `y` a sum of infinities of one sign (log 18). -/
theorem test_infinite_state_without_nan :
    stageProcess .df2 (arith32 .ieee .ch0) ⟨0x3F800000, 0x3F800000, 0x3F800000, 0xBF800000, 0xBF800000⟩
      ⟨0x7F800000, 0x7F800000⟩ 0 0 = ⟨0x7F800000, ⟨0x7F800000, 0x7F800000⟩, 0⟩ := by decide +kernel

/-- R62 by hand: `y = 1·x + d0` does not read d1, which holds a NaN (log 18). -/
theorem test_nan_in_d1_comes_a_sample_later :
    (stageProcess .tdf2 (arith32 .ieee .ch0) identityCoefs ⟨0, 0x7FC00000⟩ 0x3F800000 0).y = 0x3F800000 := by
  decide +kernel

/-- The delay state after reset is restful in either form. -/
theorem restful_resetDelay (form : StageForm) : restful form resetDelay := by
  intro st
  cases st with
  | pk => cases form <;> decide
  | lc i =>
    have h : i = 0 ∨ i = 1 ∨ i = 2 ∨ i = 3 := by revert i; decide
    rcases h with rfl | rfl | rfl | rfl <;> cases form <;> decide
  | hc i =>
    have h : i = 0 ∨ i = 1 ∨ i = 2 ∨ i = 3 := by revert i; decide
    rcases h with rfl | rfl | rfl | rfl <;> cases form <;> decide

/-- ResetChainIsTransparent in DF2: RP, the reset active set, a restful delay state, and the plain samples
+0 and the least subnormal. -/
theorem witness_transparent : onRp.port = .rp ∧ onRp.active .ch1 = ActiveSet.reset ∧
    restful onRp.params.form (onRp.delay .ch1) ∧ plainSample onRp.params.denorm 0 = true ∧
    plainSample onRp.params.denorm 0x00000001 = true :=
  ⟨rfl, rfl, restful_resetDelay _, by decide, by decide⟩

/-- A block built with TDF2 and FTZ_DAZ, with a command on RP. -/
def onRpTdf2 : State := { onRp with params := { Params.default with form := .tdf2, denorm := .ftzDaz } }

/-- ResetChainIsTransparent in TDF2: the same, and the plain samples +0 and the least normal. -/
theorem witness_transparent_tdf2 : onRpTdf2.port = .rp ∧ onRpTdf2.active .ch1 = ActiveSet.reset ∧
    restful onRpTdf2.params.form (onRpTdf2.delay .ch1) ∧ plainSample onRpTdf2.params.denorm 0 = true ∧
    plainSample onRpTdf2.params.denorm 0x80800000 = true :=
  ⟨rfl, rfl, restful_resetDelay _, by decide, by decide⟩

/-- QueryPointIsExact: a good pair at the least SR, and a bad pair at SR = −0. -/
theorem witness_query : isFinite32 0xFF7FFFFF = true ∧ isFinite32 0x00000001 = true ∧
    (0x00000001 : Word).msb = false ∧ isZero32 0x00000001 = false ∧
    ¬ (isFinite32 0x447A0000 = true ∧ isFinite32 0x80000000 = true ∧ (0x80000000 : Word).msb = false ∧
      isZero32 0x80000000 = false) := by decide

/-- BadQueryReturnsNaN: an infinite frequency. -/
theorem witness_bad_query : State.reset.port = .cp ∧ queryPoint 0x7F800000 State.reset.sr = none ∧
    stageFits .pk 0 = true := by decide +kernel

/-- MagnitudeCommandsAnswer: 1000 Hz at the reset sample rate. -/
theorem witness_good_query : State.reset.port = .cp ∧
    queryPoint 0x447A0000 State.reset.sr = some (0x408F400000000000, 0x40E7700000000000) := by decide +kernel

/-- PureGainMagnitudeIsExact: −0 counts as zero; a finite and an infinite b0. -/
theorem witness_pure_gain : isZero32 0x80000000 = true ∧ isZero32 0 = true ∧ isFinite32 0xC0000000 = true ∧
    absBits32 0xFF800000 = 0x7F800000 := by decide

/-- LogarithmHasAssumedProperties: a NaN, and the least negative number. -/
theorem witness_log : isNaN64 0x7FF0000000000001 = true ∧ (0x8000000000000001 : DWord).msb = true ∧
    absBits64 0x8000000000000001 ≠ 0 := by decide

/-- BypassedMagnitudeIsOne. -/
theorem witness_bypassed_query : ({ bypassed with port := .cp } : State).port = .cp ∧
    queryPoint 0x447A0000 bypassed.sr = some (0x408F400000000000, 0x40E7700000000000) ∧
    (bypassed.active .ch0).byp = ⟨true, true, true⟩ := by decide +kernel

/-- ChannelsGiveTheSameMagnitudes and MagnitudeReadsOnlyTheActiveSet: two states that differ in S, P,
DIRTY and delay state. -/
theorem witness_same_magnitudes : State.reset.ChannelsAgree ∧ State.reset.port = staged.port ∧
    State.reset.sr = staged.sr ∧ State.reset.active .ch0 = staged.active .ch0 ∧
    State.reset.magDraws = staged.magDraws ∧ State.reset.pending ≠ staged.pending ∧
    (∃ t, exec (.magqLin .ch0 0x447A0000) State.reset = .next t) ∧
    (∃ t, exec (.magqLin .ch0 0x447A0000) staged = .next t) :=
  ⟨rfl, rfl, rfl, rfl, rfl, by decide, ⟨_, rfl⟩, ⟨_, rfl⟩⟩

end Sys2Proof.Tests
end

section
/-! PROOFS. The read-only identification registers ID (R24) and CFG (R25): how a mapped register answers RDREG,
how a read-only one answers WRREG, and the fields of CFG. -/

namespace Sys2Proof.Machine

/-! ## Commands on a mapped register -/

/-- R93: RDREG of a mapped register returns its value and changes nothing. -/
theorem exec_rdreg_of_regAt {idx : RegIdx} {r : Reg} (h : regAt idx = some r) (s : State) :
    exec (.rdreg idx) s = .next (s.respond (.w32 (regRead s r))) := by
  show execRdreg idx s = _
  simp only [execRdreg, h]

/-- R92: WRREG from CP is performed whatever the register. -/
theorem exec_wrreg_of_cp {s : State} (hcp : s.port = .cp) (idx : RegIdx) (data : Word) :
    exec (.wrreg idx data) s = .next (writeRegister idx data s) :=
  onlyOn_self hcp

/-- R92: a write to a mapped register that is not writable raises `Err(RO)`. -/
theorem writeRegister_of_readOnly {idx : RegIdx} {r : Reg} (h : regAt idx = some r)
    (hro : regWritable r = false) (data : Word) (s : State) :
    writeRegister idx data s = raiseErr .ro .w32 s := by
  simp [writeRegister, h, hro]

/-- R107: what raising `Err(RO)` does to the whole state. -/
theorem raiseErr_ro_w32 (s : State) :
    raiseErr .ro .w32 s = { s with errRo := true, responses := (s.port, .w32 0) :: s.responses } := rfl

/-- R92, R107: WRREG from CP to a read-only register sets ERR_RO, answers 0 and changes nothing else. -/
theorem exec_wrreg_readOnly {idx : RegIdx} {r : Reg} (h : regAt idx = some r) (hro : regWritable r = false)
    {s : State} (hcp : s.port = .cp) (data : Word) :
    exec (.wrreg idx data) s =
      .next { s with errRo := true, responses := (.cp, .w32 0) :: s.responses } := by
  rw [exec_wrreg_of_cp hcp, writeRegister_of_readOnly h hro, raiseErr_ro_w32, hcp]

/-! ## The places of ID and CFG in the register map (R19) -/

theorem regAt_id : regAt 0x412 = some .id := by decide

theorem regAt_cfg : regAt 0x413 = some .cfg := by decide

/-! ## The fields of CFG (R25) -/

/-- A one-bit field holds its bit at its place and 0 at every other. -/
theorem getLsbD_bitAt (b : Bool) {i : Nat} (hi : i < 32) (j : Nat) :
    (bitAt b i).getLsbD j = (b && decide (j = i)) := by
  cases b with
  | false => simp [bitAt]
  | true =>
    have hpow : bitAt true i = BitVec.twoPow 32 i := rfl
    simp [hpow, BitVec.getLsbD_twoPow, hi, eq_comm]

/-- FORM in bit 0, DENORM in bit 1, and the constant fields at every other place. -/
theorem getLsbD_cfgWord (p : Params) (i : Nat) :
    (cfgWord p).getLsbD i =
      (decide (p.form = .tdf2) && decide (i = 0) || decide (p.denorm = .ftzDaz) && decide (i = 1) ||
        (0x240 : Word).getLsbD i) := by
  simp only [cfgWord, BitVec.getLsbD_or, getLsbD_bitAt _ (show 0 < 32 by decide),
    getLsbD_bitAt _ (show 1 < 32 by decide)]

/-- Above FORM and DENORM, CFG does not depend on the parameters. -/
theorem extractLsb'_cfgWord (p : Params) {start : Nat} (h : 2 ≤ start) (len : Nat) :
    (cfgWord p).extractLsb' start len = (0x240 : Word).extractLsb' start len := by
  ext j hj
  have hform : start + j ≠ 0 := by omega
  have hdenorm : start + j ≠ 1 := by omega
  simp only [BitVec.getElem_extractLsb', getLsbD_cfgWord, hform, hdenorm, decide_false, Bool.and_false,
    Bool.false_or]

theorem cfgWord_default : cfgWord Params.default = 0x00000240 := by decide

/-! ## The statements -/

/-- Settles O27: ID is mapped at 0x412, reads its constant, and is not writable. -/
theorem idReadsItsConstant : Obligations.IdReadsItsConstant :=
  ⟨exec_rdreg_of_regAt regAt_id, fun _ data hcp => exec_wrreg_readOnly regAt_id rfl hcp data⟩

/-- Settles O28: CFG is mapped at 0x413, reads `cfgWord` of the parameters, whose fields are those of R25,
and is not writable. -/
theorem cfgReportsParameters : Obligations.CfgReportsParameters := by
  refine ⟨fun s => ⟨cfgWord s.params, exec_rdreg_of_regAt regAt_cfg s, ?form, ?denorm, ?reserved, ?nstages,
    ?nch, ?reservedHigh, ?default⟩, fun _ data hcp => exec_wrreg_readOnly regAt_cfg rfl hcp data⟩
  case form => rw [getLsbD_cfgWord]; simp
  case denorm => rw [getLsbD_cfgWord]; simp
  case reserved => rw [extractLsb'_cfgWord _ (by omega)]; decide
  case nstages => rw [extractLsb'_cfgWord _ (by omega)]; decide
  case nch => rw [extractLsb'_cfgWord _ (by omega)]; decide
  case reservedHigh => rw [extractLsb'_cfgWord _ (by omega)]; decide
  case default => exact fun hdef => hdef ▸ cfgWord_default

end Sys2Proof.Machine
end

section
/-! PROOFS. The commit of R80 on one active set: the fields of P.CTRL read as numbers (R20), the slots that
`Configure` writes (R70, R71), and what each part of the set holds afterwards. -/

namespace Sys2Proof.Machine

/-! ## The fields of P.CTRL as numbers (R20) -/

theorem getLsbD_eq_decide (c : Word) (k : Nat) : c.getLsbD k = decide (c.toNat / 2 ^ k % 2 = 1) :=
  Nat.testBit_eq_decide_div_mod_eq

theorem ctrlLcOrd_toNat (c : Word) : (ctrlLcOrd c).toNat = c.toNat % 4 := by
  simp [ctrlLcOrd, BitVec.extractLsb'_toNat]

theorem ctrlHcOrd_toNat (c : Word) : (ctrlHcOrd c).toNat = c.toNat / 4 % 4 := by
  simp [ctrlHcOrd, BitVec.extractLsb'_toNat, Nat.shiftRight_eq_div_pow]

theorem ctrlLcVal_iff (c : Word) : ctrlLcVal c = true ↔ c.toNat / 256 % 2 = 1 := by
  simp only [ctrlLcVal, getLsbD_eq_decide, Nat.reducePow, decide_eq_true_eq]

theorem ctrlPkVal_iff (c : Word) : ctrlPkVal c = true ↔ c.toNat / 512 % 2 = 1 := by
  simp only [ctrlPkVal, getLsbD_eq_decide, Nat.reducePow, decide_eq_true_eq]

theorem ctrlHcVal_iff (c : Word) : ctrlHcVal c = true ↔ c.toNat / 1024 % 2 = 1 := by
  simp only [ctrlHcVal, getLsbD_eq_decide, Nat.reducePow, decide_eq_true_eq]

theorem ctrlBypass_eq (c : Word) :
    ctrlBypass c =
      ⟨decide (c.toNat / 16 % 2 = 1), decide (c.toNat / 32 % 2 = 1), decide (c.toNat / 64 % 2 = 1)⟩ := by
  simp only [ctrlBypass, getLsbD_eq_decide, Nat.reducePow]

/-! ## Configure, slot by slot (R70, R71) -/

theorem slot_cases (i : BitVec 2) : i = 0 ∨ i = 1 ∨ i = 2 ∨ i = 3 := by
  revert i
  decide

/-- R70: the active stages are 0 to ORD. -/
theorem activeFlags_get (ord i : BitVec 2) : (activeFlags ord).get i = decide (i.toNat ≤ ord.toNat) := by
  revert ord i
  decide

/-- R71: a slot takes its new coefficients when its active flag is set. -/
theorem configureCoefs_get_of_flag (ord i : BitVec 2) (new old : Bank (Coefs Word)) :
    (configureCoefs ord new old).get i = if (activeFlags ord).get i then new.get i else old.get i := by
  rcases slot_cases i with rfl | rfl | rfl | rfl <;> rfl

/-- R71: the stages 0 to ORD take their new coefficients, the others keep theirs. -/
theorem configureCoefs_get (ord i : BitVec 2) (new old : Bank (Coefs Word)) :
    (configureCoefs ord new old).get i = if i.toNat ≤ ord.toNat then new.get i else old.get i := by
  simp only [configureCoefs_get_of_flag, activeFlags_get, decide_eq_true_eq]

/-- R80: a cut bank's coefficients after a commit, `val` saying that its VAL bit is set. -/
theorem configureCoefs_get_when (val : Prop) [Decidable val] (ord i : BitVec 2) (new old : Bank (Coefs Word)) :
    (if val then configureCoefs ord new old else old).get i =
      if val ∧ i.toNat ≤ ord.toNat then new.get i else old.get i := by
  by_cases h : val
  · simp only [h, if_true, true_and, configureCoefs_get]
  · simp only [h, if_false, false_and]

/-- R80: a cut bank's active flags after a commit, `val` saying that its VAL bit is set. -/
theorem activeFlags_get_when (val : Prop) [Decidable val] (ord i : BitVec 2) (old : Bank Bool) :
    (if val then activeFlags ord else old).get i =
      if val then decide (i.toNat ≤ ord.toNat) else old.get i := by
  by_cases h : val
  · simp only [h, if_true, activeFlags_get]
  · simp only [h, if_false]

/-! ## A commit on one active set (R80) -/

theorem commitActive_coef_lc (p : Buffer) (a : ActiveSet) (i : BitVec 2) :
    (commitActive p a).coef.get (.lc i) =
      if p.ctrl.toNat / 256 % 2 = 1 ∧ i.toNat ≤ p.ctrl.toNat % 4 then p.coef.get (.lc i)
      else a.coef.get (.lc i) := by
  simp only [commitActive, Chain.get, configureCoefs_get_when, ctrlLcVal_iff, ctrlLcOrd_toNat]

theorem commitActive_coef_pk (p : Buffer) (a : ActiveSet) :
    (commitActive p a).coef.pk = if p.ctrl.toNat / 512 % 2 = 1 then p.coef.pk else a.coef.pk := by
  simp only [commitActive, ctrlPkVal_iff]

theorem commitActive_coef_hc (p : Buffer) (a : ActiveSet) (i : BitVec 2) :
    (commitActive p a).coef.get (.hc i) =
      if p.ctrl.toNat / 1024 % 2 = 1 ∧ i.toNat ≤ p.ctrl.toNat / 4 % 4 then p.coef.get (.hc i)
      else a.coef.get (.hc i) := by
  simp only [commitActive, Chain.get, configureCoefs_get_when, ctrlHcVal_iff, ctrlHcOrd_toNat]

theorem commitActive_actLc (p : Buffer) (a : ActiveSet) (i : BitVec 2) :
    (commitActive p a).actLc.get i =
      if p.ctrl.toNat / 256 % 2 = 1 then decide (i.toNat ≤ p.ctrl.toNat % 4) else a.actLc.get i := by
  simp only [commitActive, activeFlags_get_when, ctrlLcVal_iff, ctrlLcOrd_toNat]

theorem commitActive_actHc (p : Buffer) (a : ActiveSet) (i : BitVec 2) :
    (commitActive p a).actHc.get i =
      if p.ctrl.toNat / 1024 % 2 = 1 then decide (i.toNat ≤ p.ctrl.toNat / 4 % 4) else a.actHc.get i := by
  simp only [commitActive, activeFlags_get_when, ctrlHcVal_iff, ctrlHcOrd_toNat]

/-- R80: the bypass flags are applied whatever the VAL bits. -/
theorem commitActive_byp (p : Buffer) (a : ActiveSet) : (commitActive p a).byp = ctrlBypass p.ctrl := rfl

/-- R80, R81: a commit writes the two active sets only. -/
theorem commit_frame (s : State) : s.commit = { s with a0 := s.commit.a0, a1 := s.commit.a1 } := rfl

/-! ## The statement -/

/-- Settles O35: `commit_active` brings each channel's part to the commit on one active set. -/
theorem commitAppliesPendingSections : Obligations.CommitAppliesPendingSections := by
  intro s ch
  rw [commit_active]
  exact ⟨commitActive_coef_lc _ _, commitActive_coef_pk _ _, commitActive_coef_hc _ _,
    commitActive_actLc _ _, commitActive_actHc _ _, (commitActive_byp _ _).trans (ctrlBypass_eq _),
    commit_frame s⟩

end Sys2Proof.Machine
end

section
/-! PROOFS. What the decoder accepts (R43 to R47): a transaction that decodes is, bit for bit, the transaction of
the command it decodes to, and unless its opcode is reserved it is legal in the sense of R90. -/

namespace Sys2Proof.Machine

/-! ## A command word from its fields (R44) -/

/-- A format N word is its opcode followed by zeros. -/
theorem word_eq_of_formatN {w : Word} {op : BitVec 4} (hop : opField w = op)
    (hzero : w.extractLsb' 0 28 = 0) : w = op ++ (0 : BitVec 28) := by
  rw [← hop, ← hzero, opField, BitVec.extractLsb'_append_extractLsb'_eq_extractLsb' (by decide),
    BitVec.extractLsb'_eq_self]

theorem wordR_regField {w : Word} {op : BitVec 4} (hop : opField w = op)
    (hzero : w.extractLsb' 12 16 = 0) : wordR op (regField w) = w := by
  rw [wordR, ← hop, ← hzero, opField, regField,
    BitVec.extractLsb'_append_extractLsb'_eq_extractLsb' (by decide),
    BitVec.extractLsb'_append_extractLsb'_eq_extractLsb' (by decide), BitVec.extractLsb'_eq_self]

theorem channelBit_channelOf (b : BitVec 1) : channelBit (channelOf b) = b := by
  revert b
  decide

theorem wordP_procChField {w : Word} (hop : opField w = 6) (hzero : w.extractLsb' 1 27 = 0) :
    wordP (channelOf (procChField w)) = w := by
  rw [wordP, channelBit_channelOf, ← hop, ← hzero, opField, procChField,
    BitVec.extractLsb'_append_extractLsb'_eq_extractLsb' (by decide),
    BitVec.extractLsb'_append_extractLsb'_eq_extractLsb' (by decide), BitVec.extractLsb'_eq_self]

theorem wordM_fields {w : Word} (hop : opField w = 7) (hzero : w.extractLsb' 7 21 = 0) :
    wordM (channelOf (magChField w)) (stgField w) (secField w) (modeField w) = w := by
  rw [wordM, channelBit_channelOf, ← hop, ← hzero]
  simp (disch := decide) only [opField, magChField, stgField, secField, modeField,
    BitVec.extractLsb'_append_extractLsb'_eq_extractLsb', BitVec.extractLsb'_eq_self]

theorem sectionBits_of_sectionOf {b : BitVec 2} {sec : Section} (h : sectionOf b = some sec) :
    sectionBits sec = b := by
  revert b sec
  decide

/-! ## What each part of the decoder accepts -/

/-- Format N, for the command `j` whose word is the opcode and zeros. -/
theorem encode_of_decodeN {i j : Instr} {t : Transaction} {op : BitVec 4} (hop : opField t.word = op)
    (hj : encode j = ⟨op ++ (0 : BitVec 28), none⟩) (hwf : j.WellFormed) (h : decodeN j t = .ok i) :
    encode i = t ∧ i.WellFormed := by
  obtain ⟨w, d⟩ := t
  unfold decodeN at h
  split_ifs at h with hzero
  cases d with
  | some _ => cases h
  | none =>
    cases h
    exact ⟨hj.trans (congrArg (Transaction.mk · none) (word_eq_of_formatN hop (not_not.mp hzero)).symm), hwf⟩

theorem encode_of_decodeWrreg {i : Instr} {t : Transaction} (hop : opField t.word = 1)
    (h : decodeWrreg t = .ok i) : encode i = t ∧ i.WellFormed := by
  obtain ⟨w, d⟩ := t
  unfold decodeWrreg at h
  split_ifs at h with hzero
  cases d with
  | none => cases h
  | some d =>
    cases h
    exact ⟨congrArg (Transaction.mk · (some d)) (wordR_regField hop (not_not.mp hzero)), rfl⟩

theorem encode_of_decodeRdreg {i : Instr} {t : Transaction} (hop : opField t.word = 2)
    (h : decodeRdreg t = .ok i) : encode i = t ∧ i.WellFormed := by
  obtain ⟨w, d⟩ := t
  unfold decodeRdreg at h
  split_ifs at h with hzero
  cases d with
  | some _ => cases h
  | none =>
    cases h
    exact ⟨congrArg (Transaction.mk · none) (wordR_regField hop (not_not.mp hzero)), rfl⟩

theorem encode_of_decodeProc {i : Instr} {t : Transaction} (hop : opField t.word = 6)
    (h : decodeProc t = .ok i) : encode i = t ∧ i.WellFormed := by
  obtain ⟨w, d⟩ := t
  unfold decodeProc at h
  split_ifs at h with hzero
  cases d with
  | none => cases h
  | some x =>
    cases h
    exact ⟨congrArg (Transaction.mk · (some x)) (wordP_procChField hop (not_not.mp hzero)), rfl⟩

/-- The command a MAGQ word gives has the fields of the word and meets the constraints of R46 and R47. -/
theorem magqInstr_ok {w f : Word} {i : Instr} (h : magqInstr w f = .ok i) :
    encode i = ⟨wordM (channelOf (magChField w)) (stgField w) (secField w) (modeField w), some f⟩ ∧
      i.WellFormed := by
  rcases slot_cases (modeField w) with hmode | hmode | hmode | hmode <;>
    simp only [magqInstr, hmode, if_true, if_false, BitVec.reduceEq] at h ⊢
  · split_ifs at h with hsec hstg
    cases h
    exact ⟨by simp only [encode, not_not.mp hsec, not_not.mp hstg], rfl⟩
  · split_ifs at h with hsec hstg
    cases h
    exact ⟨by simp only [encode, not_not.mp hsec, not_not.mp hstg], rfl⟩
  · cases hsec : sectionOf (secField w) with
    | none => simp only [hsec, reduceCtorEq] at h
    | some sec =>
      simp only [hsec] at h
      split_ifs at h with hstg
      cases h
      exact ⟨by simp only [encode, not_not.mp hstg, sectionBits_of_sectionOf hsec], rfl⟩
  · cases hsec : sectionOf (secField w) with
    | none => simp only [hsec, reduceCtorEq] at h
    | some sec =>
      simp only [hsec] at h
      split_ifs at h with hfits
      cases h
      exact ⟨by simp only [encode, sectionBits_of_sectionOf hsec], hfits⟩

theorem encode_of_decodeMagq {i : Instr} {t : Transaction} (hop : opField t.word = 7)
    (h : decodeMagq t = .ok i) : encode i = t ∧ i.WellFormed := by
  obtain ⟨w, d⟩ := t
  unfold decodeMagq at h
  split_ifs at h with hzero
  cases d with
  | none => cases h
  | some f =>
    obtain ⟨henc, hwf⟩ := magqInstr_ok h
    exact ⟨henc.trans (congrArg (Transaction.mk · (some f)) (wordM_fields hop (not_not.mp hzero))), hwf⟩

/-- What the last arm of the decoder gives: the whole word is OP and the 28 bits below it. -/
theorem encode_reservedOp_fields {t : Transaction} (hop : opReserved (opField t.word) = true) :
    encode (.reservedOp (opField t.word) (t.word.extractLsb' 0 28) t.data) = t ∧
      (Instr.reservedOp (opField t.word) (t.word.extractLsb' 0 28) t.data).WellFormed := by
  refine ⟨?_, hop⟩
  simp only [encode, opField]
  rw [BitVec.extractLsb'_append_extractLsb'_eq_extractLsb' (by decide), BitVec.extractLsb'_eq_self]

theorem opReserved_of_ge {op : BitVec 4} (h : 8 ≤ op.toNat) : opReserved op = true := by
  revert op
  decide

/-! ## The decoder inverts the encoder -/

/-- R43 to R47: a transaction that decodes is the one its command encodes to, and that command is one of the
opcode table. -/
theorem encode_of_decode {t : Transaction} {i : Instr} (h : decode t = .ok i) :
    encode i = t ∧ i.WellFormed := by
  have hop {n : BitVec 4} (hn : (opField t.word).toNat = n.toNat) : opField t.word = n :=
    BitVec.eq_of_toNat_eq hn
  unfold decode at h
  split at h
  case h_1 hn => exact encode_of_decodeN (op := 0) (hop hn) rfl rfl h
  case h_2 hn => exact encode_of_decodeWrreg (hop hn) h
  case h_3 hn => exact encode_of_decodeRdreg (hop hn) h
  case h_4 hn => exact encode_of_decodeN (op := 3) (hop hn) rfl rfl h
  case h_5 hn => exact encode_of_decodeN (op := 4) (hop hn) rfl rfl h
  case h_6 hn => exact encode_of_decodeN (op := 5) (hop hn) rfl rfl h
  case h_7 hn => exact encode_of_decodeProc (hop hn) h
  case h_8 hn => exact encode_of_decodeMagq (hop hn) h
  case h_9 =>
    cases h
    simp only [imp_false] at *
    exact encode_reservedOp_fields (opReserved_of_ge (by omega))

/-! ## Legal transactions (R46, R90) -/

theorem secField_wordM (ch : Channel) (stg sec mode : BitVec 2) : secField (wordM ch stg sec mode) = sec := by
  rw [secField, wordM, BitVec.extractLsb'_append_eq_of_le (by decide),
    BitVec.extractLsb'_append_eq_of_add_le (by decide), BitVec.extractLsb'_eq_self]

theorem stgField_wordM (ch : Channel) (stg sec mode : BitVec 2) : stgField (wordM ch stg sec mode) = stg := by
  rw [stgField, wordM, BitVec.extractLsb'_append_eq_of_le (by decide),
    BitVec.extractLsb'_append_eq_of_le (by decide), BitVec.extractLsb'_append_eq_of_add_le (by decide),
    BitVec.extractLsb'_eq_self]

theorem sectionBits_ne_three (sec : Section) : sectionBits sec ≠ 3 := by
  cases sec <;> decide

theorem secIsNamed_wordM (ch : Channel) (stg : BitVec 2) (sec : Section) (mode : BitVec 2) :
    secIsNamed (wordM ch stg (sectionBits sec) mode) = true := by
  rw [secIsNamed, secField_wordM]
  exact bne_iff_ne.mpr (sectionBits_ne_three sec)

theorem stageIsNamed_wordM (ch : Channel) {stg : BitVec 2} {sec : Section} (mode : BitVec 2)
    (h : stageFits sec stg = true) : stageIsNamed (wordM ch stg (sectionBits sec) mode) = true := by
  rw [stageIsNamed, secField_wordM, stgField_wordM]
  cases sec with
  | lc => rfl
  | pk => exact h
  | hc => rfl

/-- A command that row `k` of the table matches is legal when its word meets the row's constraint and its
transaction has the row's length. -/
theorem legalTransaction_encode_of_row {i : Instr} (k : Nat) {n : Nat} {c : Word → Bool}
    (hk : opcodeRows[k]? = some ⟨Laws.RowMatch.rowValue i, Laws.RowMatch.rowMask i, n, c⟩)
    (hrow : Laws.RowMatch.Statement i) (hdata : Laws.RowMatch.rowHasData i = some (decide (n = 2)))
    (hwf : i.WellFormed) (hc : c (encode i).word = true) : legalTransaction (encode i) := by
  obtain ⟨hmatch, hlen⟩ := hrow hwf
  exact ⟨_, List.mem_of_getElem? hk, ⟨hmatch, hc⟩, by rw [hlen _ hdata, decide_eq_true_iff]⟩

/-- R46, R90: the transaction of a well-formed command is legal, unless its opcode is a reserved one. -/
theorem legalTransaction_encode {i : Instr} (hwf : i.WellFormed)
    (hres : ∀ op low data, i ≠ .reservedOp op low data) : legalTransaction (encode i) := by
  cases i with
  | nop => exact legalTransaction_encode_of_row 0 rfl Laws.RowMatch.nop rfl hwf rfl
  | wrreg idx d => exact legalTransaction_encode_of_row 1 rfl (Laws.RowMatch.wrreg idx d) rfl hwf rfl
  | rdreg idx => exact legalTransaction_encode_of_row 2 rfl (Laws.RowMatch.rdreg idx) rfl hwf rfl
  | publish => exact legalTransaction_encode_of_row 3 rfl Laws.RowMatch.publish rfl hwf rfl
  | sync => exact legalTransaction_encode_of_row 4 rfl Laws.RowMatch.sync rfl hwf rfl
  | force => exact legalTransaction_encode_of_row 5 rfl Laws.RowMatch.force rfl hwf rfl
  | proc ch x => exact legalTransaction_encode_of_row 6 rfl (Laws.RowMatch.proc ch x) rfl hwf rfl
  | magqDb ch f => exact legalTransaction_encode_of_row 7 rfl (Laws.RowMatch.magqDb ch f) rfl hwf rfl
  | magqLin ch f => exact legalTransaction_encode_of_row 8 rfl (Laws.RowMatch.magqLin ch f) rfl hwf rfl
  | magqSec ch sec f =>
    exact legalTransaction_encode_of_row 9 rfl (Laws.RowMatch.magqSec ch sec f) rfl hwf
      (secIsNamed_wordM ch 0 sec 2)
  | magqStg ch sec stg f =>
    exact legalTransaction_encode_of_row 10 rfl (Laws.RowMatch.magqStg ch sec stg f) rfl hwf
      (stageIsNamed_wordM ch 3 hwf)
  | reservedOp op low d => exact absurd rfl (hres op low d)

/-- R90: a transaction that decodes is legal or one of a reserved opcode. -/
theorem legalTransaction_or_reservedOp_of_decode {t : Transaction} {i : Instr} (h : decode t = .ok i) :
    legalTransaction t ∨ ∃ op low data, i = .reservedOp op low data := by
  obtain ⟨rfl, hwf⟩ := encode_of_decode h
  by_cases hres : ∃ op low data, i = .reservedOp op low data
  · exact .inr hres
  · exact .inl (legalTransaction_encode hwf fun op low data hi => hres ⟨op, low, data, hi⟩)

end Sys2Proof.Machine
end

section
/-! PROOFS. The port table (R89) and the order of the checks (R90): which error a command or a transaction that
is no command raises, and the response that goes with it (R107). -/

namespace Sys2Proof.Machine

/-! ## The width of a command's response (R42) -/

theorem zeroResponse_responseWidth (op : BitVec 4) :
    zeroResponse (responseWidth op) = if op = 7 then .w64 0 else .w32 0 := by
  unfold responseWidth
  split <;> rfl

theorem opField_wordR (op : BitVec 4) (idx : RegIdx) : opField (wordR op idx) = op := by
  rw [opField, wordR, BitVec.extractLsb'_append_eq_of_le (by decide),
    BitVec.extractLsb'_append_eq_of_le (by decide), BitVec.extractLsb'_eq_self]

theorem opField_wordP (ch : Channel) : opField (wordP ch) = 6 := by
  cases ch <;> decide

theorem opField_wordM (ch : Channel) (stg sec mode : BitVec 2) : opField (wordM ch stg sec mode) = 7 := by
  simp (disch := decide) only [opField, wordM, BitVec.extractLsb'_append_eq_of_le]
  rfl

/-! ## What a performed command does to ERR_PORT -/

theorem setDelay_errPort (s : State) (ch : Channel) (d : Chain (Delay Word)) (n : Nat) :
    (s.setDelay ch d n).errPort = s.errPort := by
  cases ch <;> rfl

theorem regWrite_errPort (s : State) (r : Reg) (v : Word) : (regWrite s r v).errPort = s.errPort := by
  rw [regWrite_eq]

theorem writeRegister_errPort (idx : RegIdx) (data : Word) (s : State) :
    (writeRegister idx data s).errPort = s.errPort := by
  rcases writeRegister_cases idx data s with ⟨-, h⟩ | ⟨r, -, -, h⟩ | ⟨r, -, -, h⟩ <;> rw [h]
  · exact raiseErr_unmap_errPort _ _
  · rw [respond_errPort, regWrite_errPort]
  · exact raiseErr_ro_errPort _ _

theorem processSample_errPort (ch : Channel) (x : Word) (s : State) :
    (processSample ch x s).errPort = s.errPort := by
  rw [processSample, respond_errPort, setDelay_errPort]

theorem query_errPort (s : State) (freq : Word) (eval : DWord → DWord → Nat → DWord × Nat) :
    (s.query freq eval).errPort = s.errPort := by
  rcases query_cases s freq eval with ⟨-, h⟩ | ⟨f, fs, -, h⟩ <;> rw [h, respond_errPort]

/-! ## The port check (R89) -/

theorem stageOf_of_stageFits {sec : Section} {stg : BitVec 2} (h : stageFits sec stg = true) :
    ∃ st, stageOf sec stg = some st := by
  cases sec with
  | lc => exact ⟨_, rfl⟩
  | pk => exact ⟨_, if_pos (eq_of_beq h)⟩
  | hc => exact ⟨_, rfl⟩

/-- R101: MAGQ.STG of a stage that its section has is a query on CP. -/
theorem exec_magqStg_of_stageFits {sec : Section} {stg : BitVec 2} (h : stageFits sec stg = true)
    (ch : Channel) (freq : Word) (s : State) :
    ∃ eval, exec (.magqStg ch sec stg freq) s = onlyOn .cp .w64 s (s.query freq eval) := by
  obtain ⟨st, hst⟩ := stageOf_of_stageFits h
  refine ⟨fun f fs n => (stageMag ((s.active ch).coef.get st) f fs, n), ?_⟩
  show execMagqStg ch sec stg freq s = _
  simp only [execMagqStg, hst]

/-- R93: RDREG leaves ERR_PORT as it is, whether its index is mapped or not. -/
theorem exec_rdreg_errPort (idx : RegIdx) (s : State) :
    ∃ t, exec (.rdreg idx) s = .next t ∧ t.errPort = s.errPort := by
  cases hr : regAt idx with
  | none =>
    refine ⟨raiseErr .unmap .w32 s, ?_, raiseErr_unmap_errPort _ _⟩
    show execRdreg idx s = _
    simp only [execRdreg, hr]
  | some r => exact ⟨_, exec_rdreg_of_regAt hr s, respond_errPort _ _⟩

/-- R95: SYNC leaves ERR_PORT as it is, whether DIRTY is set or not. -/
theorem exec_sync_errPort (s : State) : ∃ t, exec .sync s = .next t ∧ t.errPort = s.errPort := by
  show ∃ t, execSync s = .next t ∧ t.errPort = s.errPort
  unfold execSync
  split
  · exact ⟨_, rfl, rfl⟩
  · exact ⟨_, rfl, rfl⟩

/-- A command of both ports: on either it answers and leaves ERR_PORT as it is. -/
def OnBothPorts (i : Instr) (s : State) : Prop :=
  (∀ p, mayIssue i p = true) ∧ ∃ t, exec i s = .next t ∧ t.errPort = s.errPort

/-- A command of one port `p`: it is `onlyOn` that port, at its opcode's width, and what it runs there leaves
ERR_PORT as it is. -/
def OnOnePort (i : Instr) (s : State) : Prop :=
  ∃ p run, (∀ q, mayIssue i q = decide (q = p)) ∧ run.errPort = s.errPort ∧
    exec i s = onlyOn p (responseWidth (opField (encode i).word)) s run

/-- A magnitude query is a command of CP with a 64-bit response. -/
theorem onOnePort_of_query {i : Instr} {s : State} {freq : Word} {eval : DWord → DWord → Nat → DWord × Nat}
    (hmay : ∀ q, mayIssue i q = decide (q = .cp)) (hop : opField (encode i).word = 7)
    (hexec : exec i s = onlyOn .cp .w64 s (s.query freq eval)) : OnOnePort i s :=
  ⟨.cp, _, hmay, query_errPort s freq eval, by rw [hexec, hop]; rfl⟩

/-- R89: every command of the opcode table is a command of both ports or of one. -/
theorem exec_ports {i : Instr} (hwf : i.WellFormed) (s : State) : OnBothPorts i s ∨ OnOnePort i s := by
  cases i with
  | nop => exact .inl ⟨fun _ => rfl, _, rfl, rfl⟩
  | wrreg idx data =>
    refine .inr ⟨.cp, _, fun _ => rfl, writeRegister_errPort idx data s, ?_⟩
    rw [encode, opField_wordR]
    rfl
  | rdreg idx => exact .inl ⟨fun _ => rfl, exec_rdreg_errPort idx s⟩
  | publish => exact .inr ⟨.cp, s.publish.respond (.w32 0), fun _ => rfl, rfl, rfl⟩
  | sync => exact .inl ⟨fun _ => rfl, exec_sync_errPort s⟩
  | force => exact .inl ⟨fun _ => rfl, _, rfl, rfl⟩
  | proc ch sample =>
    refine .inr ⟨.rp, _, fun _ => rfl, processSample_errPort ch sample s, ?_⟩
    rw [encode, opField_wordP]
    rfl
  | magqDb ch freq => exact .inr (onOnePort_of_query (fun _ => rfl) (opField_wordM ch 0 0 0) rfl)
  | magqLin ch freq => exact .inr (onOnePort_of_query (fun _ => rfl) (opField_wordM ch 0 0 1) rfl)
  | magqSec ch sec freq =>
    exact .inr (onOnePort_of_query (fun _ => rfl) (opField_wordM ch 0 (sectionBits sec) 2) rfl)
  | magqStg ch sec stg freq =>
    obtain ⟨eval, hexec⟩ := exec_magqStg_of_stageFits hwf ch freq s
    exact .inr (onOnePort_of_query (fun _ => rfl) (opField_wordM ch stg (sectionBits sec) 3) hexec)
  | reservedOp op low data => exact .inl ⟨fun _ => rfl, _, rfl, rfl⟩

/-- R107: raising `Err(PORT)` at an opcode's width, on the whole state. -/
theorem raiseErr_port_responseWidth (op : BitVec 4) (s : State) :
    raiseErr .port (responseWidth op) s =
      { s with
        errPort := true
        responses := (s.port, if op = 7 then .w64 0 else .w32 0) :: s.responses } := by
  rw [← zeroResponse_responseWidth]
  rfl

/-- R89: a command on a port that may not issue it raises `Err(PORT)`. -/
theorem exec_of_not_mayIssue {i : Instr} {s : State} (hwf : i.WellFormed) (h : mayIssue i s.port = false) :
    exec i s = .next (raiseErr .port (responseWidth (opField (encode i).word)) s) := by
  rcases exec_ports hwf s with ⟨hmay, -⟩ | ⟨p, run, hmay, -, hexec⟩
  · cases (hmay _).symm.trans h
  · rw [hexec, onlyOn_other (of_decide_eq_false ((hmay _).symm.trans h))]

/-- R89: a command on a port that may issue it leaves ERR_PORT as it is. -/
theorem exec_errPort_of_mayIssue {i : Instr} {s t : State} (hwf : i.WellFormed)
    (h : mayIssue i s.port = true) (hexec : exec i s = .next t) : t.errPort = s.errPort := by
  rcases exec_ports hwf s with ⟨-, u, hu, herr⟩ | ⟨p, run, hmay, herr, hrun⟩
  · cases hu.symm.trans hexec
    exact herr
  · rw [onlyOn_self (of_decide_eq_true ((hmay _).symm.trans h))] at hrun
    cases hrun.symm.trans hexec
    exact herr

/-! ## A step that serves a waiting transaction (R37, R90) -/

theorem setQueue_responses (s : State) (p : Port) (q : List Transaction) :
    (s.setQueue p q).responses = s.responses := by
  cases p <;> rfl

theorem fetch_of_queue {s s' : State} {p : Port} {t : Transaction} {rest : List Transaction}
    (hturn : s.takeTurn = (.serve p, s')) (hqueue : s'.queue p = t :: rest) :
    fetch s = fetchTransaction p t (s'.setQueue p rest) := by
  simp only [fetch, hturn, servePort, hqueue]

theorem step_of_decode_ok {s s' : State} {p : Port} {t : Transaction} {rest : List Transaction} {i : Instr}
    (hturn : s.takeTurn = (.serve p, s')) (hqueue : s'.queue p = t :: rest) (hdec : decode t = .ok i) :
    step s = exec i { s'.setQueue p rest with port := p } := by
  simp only [step, fetch_of_queue hturn hqueue, fetchTransaction, hdec]

theorem step_of_decode_error {s s' : State} {p : Port} {t : Transaction} {rest : List Transaction}
    {e : Illegal} (hturn : s.takeTurn = (.serve p, s')) (hqueue : s'.queue p = t :: rest)
    (hdec : decode t = .error e) :
    step s =
      .next (raiseErr .ill (responseWidth (opField t.word)) { s'.setQueue p rest with port := p }) := by
  simp only [step, fetch_of_queue hturn hqueue, fetchTransaction, hdec]

theorem msb_word_reservedOp {op : BitVec 4} {low : BitVec 28} {data : Option Word}
    (hwf : (Instr.reservedOp op low data).WellFormed) :
    (encode (.reservedOp op low data)).word.msb = true :=
  BitVec.msb_append.trans hwf

/-- R47, R90: an illegal transaction raises `Err(ILL)`, at its opcode's width unless that is a reserved one. -/
theorem step_of_not_legal {s s' : State} {p : Port} {t : Transaction} {rest : List Transaction}
    (hturn : s.takeTurn = (.serve p, s')) (hqueue : s'.queue p = t :: rest) (hill : ¬ legalTransaction t) :
    ∃ w, (t.word.msb = false → w = responseWidth (opField t.word)) ∧
      step s = .next (raiseErr .ill w { s'.setQueue p rest with port := p }) := by
  cases hdec : decode t with
  | error e => exact ⟨_, fun _ => rfl, step_of_decode_error hturn hqueue hdec⟩
  | ok i =>
    obtain ⟨op, low, data, rfl⟩ := (legalTransaction_or_reservedOp_of_decode hdec).resolve_left hill
    obtain ⟨rfl, hwf⟩ := encode_of_decode hdec
    refine ⟨.w32, fun hmsb => ?_, step_of_decode_ok hturn hqueue hdec⟩
    cases (msb_word_reservedOp hwf).symm.trans hmsb

/-! ## The statements -/

/-- Settles O21: by `exec_ports`, a command of one port is performed on it and raises `Err(PORT)` on the other. -/
theorem portTableIsEnforced : Obligations.PortTableIsEnforced := by
  intro i s hwf
  refine ⟨fun h => ?_, fun t h hexec => exec_errPort_of_mayIssue hwf h hexec⟩
  rw [exec_of_not_mayIssue hwf h, raiseErr_port_responseWidth]

/-- Settles O8: a transaction that is not legal does not decode, or decodes to a reserved opcode; one that decodes
is the encoding of its command, whose opcode gives the width. -/
theorem executeChecksLegalityThenPort : Obligations.ExecuteChecksLegalityThenPort := by
  intro s s' p t rest hturn hqueue
  rw [← setQueue_responses s' p rest]
  refine ⟨fun hill => ?ill, fun i _ hdec hmay => ?port, fun i _ hdec _ => step_of_decode_ok hturn hqueue hdec⟩
  case ill =>
    obtain ⟨w, hw, hstep⟩ := step_of_not_legal hturn hqueue hill
    refine ⟨zeroResponse w, ?_, fun hmsb => ?_, hstep⟩
    · cases w with
      | w32 => exact .inl rfl
      | w64 => exact .inr rfl
    · rw [hw hmsb, zeroResponse_responseWidth]
  case port =>
    obtain ⟨rfl, hwf⟩ := encode_of_decode hdec
    rw [step_of_decode_ok hturn hqueue hdec, exec_of_not_mayIssue hwf hmay, raiseErr_port_responseWidth]

end Sys2Proof.Machine
end

section
/-! PROOFS. The encoding (R43 to R47): the decoder on the transaction of a command, the rows of the opcode table
as masks and values, and the register map (R19) as layouts of stages. -/

namespace Sys2Proof.Machine

/-! ## The fields of an encoded word (R44) -/

theorem reservedBits_wordR (op : BitVec 4) (idx : RegIdx) : (wordR op idx).extractLsb' 12 16 = 0 := by
  rw [wordR, BitVec.extractLsb'_append_eq_of_le (by decide), BitVec.extractLsb'_append_eq_of_add_le (by decide),
    BitVec.extractLsb'_eq_self]

theorem regField_wordR (op : BitVec 4) (idx : RegIdx) : regField (wordR op idx) = idx := by
  rw [regField, wordR, BitVec.extractLsb'_append_eq_of_add_le (by decide), BitVec.extractLsb'_eq_self]

theorem reservedBits_wordP (ch : Channel) : (wordP ch).extractLsb' 1 27 = 0 := by
  cases ch <;> decide

theorem procChField_wordP (ch : Channel) : procChField (wordP ch) = channelBit ch := by
  cases ch <;> decide

theorem reservedBits_wordM (ch : Channel) (stg sec mode : BitVec 2) :
    (wordM ch stg sec mode).extractLsb' 7 21 = 0 := by
  rw [wordM]
  simp (disch := decide) only [BitVec.extractLsb'_append_eq_of_le, BitVec.extractLsb'_append_eq_of_add_le]
  rfl

theorem magChField_wordM (ch : Channel) (stg sec mode : BitVec 2) :
    magChField (wordM ch stg sec mode) = channelBit ch := by
  rw [magChField, wordM]
  simp (disch := decide) only [BitVec.extractLsb'_append_eq_of_le, BitVec.extractLsb'_append_eq_of_add_le]
  exact BitVec.extractLsb'_eq_self

theorem modeField_wordM (ch : Channel) (stg sec mode : BitVec 2) : modeField (wordM ch stg sec mode) = mode := by
  rw [modeField, wordM, BitVec.extractLsb'_append_eq_of_add_le (by decide), BitVec.extractLsb'_eq_self]

theorem opField_append (op : BitVec 4) (low : BitVec 28) : opField (op ++ low) = op := by
  rw [opField, BitVec.extractLsb'_append_eq_of_le (by decide), BitVec.extractLsb'_eq_self]

theorem lowBits_append (op : BitVec 4) (low : BitVec 28) : (op ++ low : Word).extractLsb' 0 28 = low := by
  rw [BitVec.extractLsb'_append_eq_of_add_le (by decide), BitVec.extractLsb'_eq_self]

theorem channelOf_channelBit (ch : Channel) : channelOf (channelBit ch) = ch := by
  cases ch <;> rfl

theorem sectionOf_sectionBits (sec : Section) : sectionOf (sectionBits sec) = some sec := by
  cases sec <;> rfl

/-! ## The decoder on the transaction of a command (R43, R46) -/

theorem decode_wordR_wrreg (idx : RegIdx) (data : Word) :
    decode ⟨wordR 1 idx, some data⟩ = .ok (.wrreg idx data) := by
  simp [decode, opField_wordR, decodeWrreg, reservedBits_wordR, regField_wordR]

theorem decode_wordR_rdreg (idx : RegIdx) : decode ⟨wordR 2 idx, none⟩ = .ok (.rdreg idx) := by
  simp [decode, opField_wordR, decodeRdreg, reservedBits_wordR, regField_wordR]

theorem decode_wordP (ch : Channel) (x : Word) : decode ⟨wordP ch, some x⟩ = .ok (.proc ch x) := by
  simp [decode, opField_wordP, decodeProc, reservedBits_wordP, procChField_wordP, channelOf_channelBit]

/-- A format M word leaves its mode and the constraints of R46 and R47 to `magqInstr`. -/
theorem decode_wordM (ch : Channel) (stg sec mode : BitVec 2) (f : Word) :
    decode ⟨wordM ch stg sec mode, some f⟩ = magqInstr (wordM ch stg sec mode) f := by
  simp [decode, opField_wordM, decodeMagq, reservedBits_wordM]

theorem magqInstr_wordM_sec (ch : Channel) (sec : Section) (f : Word) :
    magqInstr (wordM ch 0 (sectionBits sec) 2) f = .ok (.magqSec ch sec f) := by
  simp [magqInstr, modeField_wordM, secField_wordM, stgField_wordM, magChField_wordM, channelOf_channelBit,
    sectionOf_sectionBits]

theorem magqInstr_wordM_stg (ch : Channel) {sec : Section} {stg : BitVec 2} (f : Word)
    (h : stageFits sec stg = true) :
    magqInstr (wordM ch stg (sectionBits sec) 3) f = .ok (.magqStg ch sec stg f) := by
  simp [magqInstr, modeField_wordM, secField_wordM, stgField_wordM, magChField_wordM, channelOf_channelBit,
    sectionOf_sectionBits, h]

theorem magqInstr_wordM_chain (ch : Channel) (f : Word) :
    magqInstr (wordM ch 0 0 0) f = .ok (.magqDb ch f) ∧ magqInstr (wordM ch 0 0 1) f = .ok (.magqLin ch f) := by
  simp [magqInstr, modeField_wordM, secField_wordM, stgField_wordM, magChField_wordM, channelOf_channelBit]

theorem le_of_opReserved {op : BitVec 4} (h : opReserved op = true) : 8 ≤ op.toNat := by
  revert op
  decide

/-- R47: a word of a reserved opcode decodes to it, whatever else the transaction holds. -/
theorem decode_of_opReserved {t : Transaction} (h : opReserved (opField t.word) = true) :
    decode t = .ok (.reservedOp (opField t.word) (t.word.extractLsb' 0 28) t.data) := by
  have hge := le_of_opReserved h
  unfold decode
  split
  case h_9 => rfl
  all_goals omega

/-- R43, R44, R46: decoding inverts encoding on the commands of the opcode table. -/
theorem decode_encode {i : Instr} (hwf : i.WellFormed) : decode (encode i) = .ok i := by
  cases i with
  | nop => rfl
  | wrreg idx data => exact decode_wordR_wrreg idx data
  | rdreg idx => exact decode_wordR_rdreg idx
  | publish => rfl
  | sync => rfl
  | force => rfl
  | proc ch x => exact decode_wordP ch x
  | magqDb ch f => exact (decode_wordM ch 0 0 0 f).trans (magqInstr_wordM_chain ch f).1
  | magqLin ch f => exact (decode_wordM ch 0 0 1 f).trans (magqInstr_wordM_chain ch f).2
  | magqSec ch sec f => exact (decode_wordM ch 0 (sectionBits sec) 2 f).trans (magqInstr_wordM_sec ch sec f)
  | magqStg ch sec stg f =>
    exact (decode_wordM ch stg (sectionBits sec) 3 f).trans (magqInstr_wordM_stg ch f hwf)
  | reservedOp op low data =>
    have hop : opField (encode (.reservedOp op low data)).word = op := opField_append op low
    have hlow : (encode (.reservedOp op low data)).word.extractLsb' 0 28 = low := lowBits_append op low
    rw [decode_of_opReserved (hop.symm ▸ hwf), hop, hlow]
    rfl

/-! ## A word that matches a row of the opcode table (R46) -/

/-- A field that lies wholly under a row's mask has the bits of the row's match. -/
theorem extractLsb'_of_masked {w m v : Word} (h : w &&& m = v) {start len : Nat}
    (hm : m.extractLsb' start len = BitVec.allOnes len) : w.extractLsb' start len = v.extractLsb' start len := by
  rw [← h, BitVec.extractLsb'_and, hm, BitVec.and_allOnes]

theorem sectionOf_of_ne_three {b : BitVec 2} (h : b ≠ 3) : ∃ sec, sectionOf b = some sec := by
  rcases slot_cases b with rfl | rfl | rfl | rfl
  · exact ⟨.lc, rfl⟩
  · exact ⟨.pk, rfl⟩
  · exact ⟨.hc, rfl⟩
  · exact absurd rfl h

/-- SEC ≠ 3 says that the word names a section. -/
theorem sectionOf_of_secIsNamed {w : Word} (h : secIsNamed w = true) : ∃ sec, sectionOf (secField w) = some sec :=
  sectionOf_of_ne_three (bne_iff_ne.mp h)

/-- The constraint of MAGQ.STG says that the word names a stage its section has. -/
theorem sectionOf_of_stageIsNamed {w : Word} (h : stageIsNamed w = true) :
    ∃ sec, sectionOf (secField w) = some sec ∧ stageFits sec (stgField w) = true := by
  obtain ⟨hsec, hstg⟩ := Bool.and_eq_true_iff.mp h
  obtain ⟨sec, hof⟩ := sectionOf_of_ne_three (bne_iff_ne.mp hsec)
  refine ⟨sec, hof, ?_⟩
  cases sec with
  | lc => rfl
  | pk =>
    rw [← sectionBits_of_sectionOf hof] at hstg
    exact hstg
  | hc => rfl

/-- A format N row fixes the whole word. -/
theorem word_of_formatN_row {w v : Word} (h : w &&& 0xFFFFFFFF = v) : w = v :=
  BitVec.and_allOnes.symm.trans h

/-- A format R row leaves REGIDX free. -/
theorem wordR_of_row {w : Word} {op : BitVec 4} (h : w &&& 0xFFFFF000 = wordR op 0) :
    wordR op (regField w) = w :=
  wordR_regField ((extractLsb'_of_masked h (by decide)).trans (opField_wordR op 0))
    ((extractLsb'_of_masked h (by decide)).trans (reservedBits_wordR op 0))

/-- The row of PROC leaves CH free. -/
theorem wordP_of_row {w : Word} (h : w &&& 0xFFFFFFFE = 0x60000000) : wordP (channelOf (procChField w)) = w :=
  wordP_procChField ((extractLsb'_of_masked h (by decide)).trans (by decide))
    ((extractLsb'_of_masked h (by decide)).trans (by decide))

/-- A format M row whose mask covers OP, the reserved bits and MODE leaves CH, and STG and SEC to its mask. -/
theorem wordM_of_row {w m : Word} {mode : BitVec 2} (h : w &&& m = wordM .ch0 0 0 mode)
    (hop : m.extractLsb' 28 4 = BitVec.allOnes 4) (hres : m.extractLsb' 7 21 = BitVec.allOnes 21)
    (hmode : m.extractLsb' 0 2 = BitVec.allOnes 2) :
    wordM (channelOf (magChField w)) (stgField w) (secField w) mode = w := by
  have hmodeField : modeField w = mode := (extractLsb'_of_masked h hmode).trans (modeField_wordM _ _ _ _)
  rw [← hmodeField]
  exact wordM_fields ((extractLsb'_of_masked h hop).trans (opField_wordM _ _ _ _))
    ((extractLsb'_of_masked h hres).trans (reservedBits_wordM _ _ _ _))

theorem stgField_of_row {w m : Word} {mode : BitVec 2} (h : w &&& m = wordM .ch0 0 0 mode)
    (hstg : m.extractLsb' 4 2 = BitVec.allOnes 2) : stgField w = 0 :=
  (extractLsb'_of_masked h hstg).trans (stgField_wordM _ _ _ _)

theorem secField_of_row {w m : Word} {mode : BitVec 2} (h : w &&& m = wordM .ch0 0 0 mode)
    (hsec : m.extractLsb' 2 2 = BitVec.allOnes 2) : secField w = 0 :=
  (extractLsb'_of_masked h hsec).trans (secField_wordM _ _ _ _)

/-- The transaction is one of a command of the table. -/
def SpellsCommand (t : Transaction) : Prop :=
  ∃ i : Instr, i.WellFormed ∧ (∀ op low data, i ≠ .reservedOp op low data) ∧ encode i = t

theorem spellsCommand_of_word {i : Instr} {w v : Word} {d : Option Word} (hi : encode i = ⟨v, d⟩) (hv : v = w)
    (hwf : i.WellFormed) (hres : ∀ op low data, i ≠ .reservedOp op low data) : SpellsCommand ⟨w, d⟩ :=
  ⟨i, hwf, hres, hi.trans (congrArg (Transaction.mk · d) hv)⟩

/-- The rows of MAGQ.DB and MAGQ.LIN. -/
theorem spellsCommand_chainMag_row {w f : Word} {mode : BitVec 2} (hm : mode = 0 ∨ mode = 1)
    (h : w &&& 0xFFFFFFBF = wordM .ch0 0 0 mode) : SpellsCommand ⟨w, some f⟩ := by
  have hw := wordM_of_row h (by decide) (by decide) (by decide)
  rw [stgField_of_row h (by decide), secField_of_row h (by decide)] at hw
  rcases hm with rfl | rfl
  · exact spellsCommand_of_word (i := .magqDb _ f) rfl hw rfl (by simp)
  · exact spellsCommand_of_word (i := .magqLin _ f) rfl hw rfl (by simp)

/-- The row of MAGQ.SEC. -/
theorem spellsCommand_secMag_row {w f : Word} (h : w &&& 0xFFFFFFB3 = wordM .ch0 0 0 2) (hc : secIsNamed w = true) :
    SpellsCommand ⟨w, some f⟩ := by
  obtain ⟨sec, hsec⟩ := sectionOf_of_secIsNamed hc
  have hw := wordM_of_row h (by decide) (by decide) (by decide)
  rw [stgField_of_row h (by decide), ← sectionBits_of_sectionOf hsec] at hw
  exact spellsCommand_of_word (i := .magqSec _ sec f) rfl hw rfl (by simp)

/-- The row of MAGQ.STG. -/
theorem spellsCommand_stageMag_row {w f : Word} (h : w &&& 0xFFFFFF83 = wordM .ch0 0 0 3)
    (hc : stageIsNamed w = true) : SpellsCommand ⟨w, some f⟩ := by
  obtain ⟨sec, hsec, hfits⟩ := sectionOf_of_stageIsNamed hc
  have hw := wordM_of_row h (by decide) (by decide) (by decide)
  rw [← sectionBits_of_sectionOf hsec] at hw
  exact spellsCommand_of_word (i := .magqStg _ sec _ f) rfl hw hfits (by simp)

/-- R46, R90: a legal transaction is the transaction of a command of the table. -/
theorem spellsCommand_of_legalTransaction {t : Transaction} (h : legalTransaction t) : SpellsCommand t := by
  obtain ⟨w, d⟩ := t
  obtain ⟨r, hr, ⟨hw, hc⟩, hd⟩ := h
  have hdata : (r.words = 2 → ∃ x, d = some x) ∧ (r.words ≠ 2 → d = none) :=
    ⟨fun hn => Option.isSome_iff_exists.mp (hd.mpr hn),
      fun hn => Option.not_isSome_iff_eq_none.mp fun hs => hn (hd.mp hs)⟩
  obtain ⟨hsome, hnone⟩ := hdata
  simp only [opcodeRows, List.mem_cons, List.not_mem_nil, or_false] at hr
  rcases hr with rfl | rfl | rfl | rfl | rfl | rfl | rfl | rfl | rfl | rfl | rfl
  · obtain rfl := hnone (by decide)
    exact spellsCommand_of_word (i := .nop) rfl (word_of_formatN_row hw).symm rfl (by simp)
  · obtain ⟨x, rfl⟩ := hsome rfl
    exact spellsCommand_of_word (i := .wrreg _ x) rfl (wordR_of_row hw) rfl (by simp)
  · obtain rfl := hnone (by decide)
    exact spellsCommand_of_word (i := .rdreg _) rfl (wordR_of_row hw) rfl (by simp)
  · obtain rfl := hnone (by decide)
    exact spellsCommand_of_word (i := .publish) rfl (word_of_formatN_row hw).symm rfl (by simp)
  · obtain rfl := hnone (by decide)
    exact spellsCommand_of_word (i := .sync) rfl (word_of_formatN_row hw).symm rfl (by simp)
  · obtain rfl := hnone (by decide)
    exact spellsCommand_of_word (i := .force) rfl (word_of_formatN_row hw).symm rfl (by simp)
  · obtain ⟨x, rfl⟩ := hsome rfl
    exact spellsCommand_of_word (i := .proc _ x) rfl (wordP_of_row hw) rfl (by simp)
  · obtain ⟨f, rfl⟩ := hsome rfl
    exact spellsCommand_chainMag_row (.inl rfl) hw
  · obtain ⟨f, rfl⟩ := hsome rfl
    exact spellsCommand_chainMag_row (.inr rfl) hw
  · obtain ⟨f, rfl⟩ := hsome rfl
    exact spellsCommand_secMag_row hw hc
  · obtain ⟨f, rfl⟩ := hsome rfl
    exact spellsCommand_stageMag_row hw hc

/-! ## Legal and reserved words -/

theorem opReserved_opField (w : Word) : opReserved (opField w) = w.msb := by
  rw [opReserved, opField, BitVec.msb_eq_getLsbD_last, BitVec.msb_eq_getLsbD_last]
  simp

/-- R46: exactly the words with bit 31 set are of a reserved opcode. -/
theorem msb_iff_decode_reservedOp (t : Transaction) :
    t.word.msb = true ↔ ∃ op low data, decode t = .ok (.reservedOp op low data) := by
  constructor
  · intro hmsb
    exact ⟨_, _, _, decode_of_opReserved ((opReserved_opField t.word).trans hmsb)⟩
  · rintro ⟨op, low, data, hdec⟩
    obtain ⟨rfl, hwf⟩ := encode_of_decode hdec
    exact msb_word_reservedOp hwf

theorem not_msb_of_decode {t : Transaction} {i : Instr} (hdec : decode t = .ok i)
    (hres : ∀ op low data, i ≠ .reservedOp op low data) : t.word.msb = false := by
  by_contra hmsb
  obtain ⟨op, low, data, h⟩ := (msb_iff_decode_reservedOp t).mp (eq_true_of_ne_false hmsb)
  cases hdec.symm.trans h
  exact hres op low data rfl

theorem legalTransaction_iff (t : Transaction) :
    legalTransaction t ↔ t.word.msb = false ∧ ∃ i, decode t = .ok i := by
  constructor
  · intro hlegal
    obtain ⟨i, hwf, hres, rfl⟩ := spellsCommand_of_legalTransaction hlegal
    exact ⟨not_msb_of_decode (decode_encode hwf) hres, i, decode_encode hwf⟩
  · rintro ⟨hmsb, i, hdec⟩
    refine (legalTransaction_or_reservedOp_of_decode hdec).resolve_right ?_
    rintro ⟨op, low, data, rfl⟩
    cases hmsb.symm.trans ((msb_iff_decode_reservedOp t).mpr ⟨op, low, data, hdec⟩)

/-! ## Disjoint rows (R46) -/

/-- Two rows whose matches differ under both masks have no word in common. -/
theorem not_spells_of_value_ne {a b : OpcodeRow} (h : a.value &&& b.mask ≠ b.value &&& a.mask) (w : Word) :
    ¬ (a.spells w ∧ b.spells w) := by
  rintro ⟨⟨ha, -⟩, ⟨hb, -⟩⟩
  apply h
  rw [← ha, ← hb, BitVec.and_assoc, BitVec.and_assoc, BitVec.and_comm a.mask]

theorem opcodeRows_values_differ :
    opcodeRows.Pairwise (fun a b => a.value &&& b.mask ≠ b.value &&& a.mask) := by
  decide

/-! ## The register map (R19) -/

theorem coefNumber_lt (k : CoefIdx) : coefNumber k < 8 := by
  cases k <;> decide

theorem delayNumber_lt (j : DelayIdx) : delayNumber j < 8 := by
  cases j <;> decide

/-- A stage's place is one of 12 blocks of 8 places. -/
theorem stageOffset_bound (st : StageId) : stageOffset st + 8 ≤ 0x80 ∧ stageOffset st % 8 = 0 := by
  cases st with
  | lc i => simp only [stageOffset]; omega
  | pk => decide
  | hc i => simp only [stageOffset]; omega

theorem stageAt_stageOffset (st : StageId) {k : Nat} (hk : k < 8) : stageAt (stageOffset st + k) = some st := by
  cases st with
  | lc i =>
    have h : i.toNat < 4 := i.isLt
    have hsec : (i.toNat * 8 + k) / 32 = 0 := by omega
    have hstg : (i.toNat * 8 + k) % 32 / 8 = i.toNat := by omega
    simp [stageAt, stageOffset, hsec, hstg]
  | pk =>
    have hsec : (32 + k) / 32 = 1 := by omega
    have hstg : (32 + k) % 32 / 8 = 0 := by omega
    simp only [stageAt, stageOffset, hsec, hstg, Nat.one_ne_zero, if_true, if_false]
  | hc i =>
    have h : i.toNat < 4 := i.isLt
    have hsec : (64 + i.toNat * 8 + k) / 32 = 2 := by omega
    have hstg : (64 + i.toNat * 8 + k) % 32 / 8 = i.toNat := by omega
    simp [stageAt, stageOffset, hsec, hstg]

theorem coefAt_coefNumber (st : StageId) (k : CoefIdx) : coefAt (stageOffset st + coefNumber k) = some k := by
  obtain ⟨-, h⟩ := stageOffset_bound st
  have hk : (stageOffset st + coefNumber k) % 8 = coefNumber k := by have := coefNumber_lt k; omega
  simp only [coefAt, hk]
  cases k <;> rfl

theorem delayAt_delayNumber (st : StageId) (j : DelayIdx) : delayAt (stageOffset st + delayNumber j) = some j := by
  obtain ⟨-, h⟩ := stageOffset_bound st
  have hj : (stageOffset st + delayNumber j) % 8 = delayNumber j := by have := delayNumber_lt j; omega
  simp only [delayAt, hj]
  cases j <;> rfl

theorem stageOffset_of_stageAt {off : Nat} {st : StageId} (h : stageAt off = some st) :
    stageOffset st = off / 8 * 8 := by
  simp only [stageAt] at h
  split_ifs at h <;> cases h <;> simp only [stageOffset, BitVec.toNat_ofNat] <;> omega

theorem coefNumber_of_coefAt {off : Nat} {k : CoefIdx} (h : coefAt off = some k) : coefNumber k = off % 8 := by
  simp only [coefAt] at h
  split_ifs at h with h0 h1 h2 h3 h4 <;> cases h <;> simp only [coefNumber, *]

theorem delayNumber_of_delayAt {off : Nat} {j : DelayIdx} (h : delayAt off = some j) :
    delayNumber j = off % 8 := by
  simp only [delayAt] at h
  split_ifs at h with h0 h1 <;> cases h <;> simp only [delayNumber, *]

theorem coefReg_stageOffset (mk : StageId → CoefIdx → Reg) (st : StageId) (k : CoefIdx) :
    coefReg mk (stageOffset st + coefNumber k) = some (mk st k) := by
  simp only [coefReg, stageAt_stageOffset st (coefNumber_lt k), coefAt_coefNumber]

theorem delayReg_stageOffset (ch : Channel) (st : StageId) (j : DelayIdx) :
    delayReg ch (stageOffset st + delayNumber j) = some (.delay ch st j) := by
  simp only [delayReg, stageAt_stageOffset st (delayNumber_lt j), delayAt_delayNumber]

theorem coefReg_some {mk : StageId → CoefIdx → Reg} {off : Nat} {r : Reg} (h : coefReg mk off = some r) :
    ∃ st k, r = mk st k ∧ stageOffset st + coefNumber k = off := by
  unfold coefReg at h
  split at h
  case h_1 st k hst hk =>
    cases h
    exact ⟨st, k, rfl, by rw [stageOffset_of_stageAt hst, coefNumber_of_coefAt hk]; omega⟩
  case h_2 => cases h

theorem delayReg_some {ch : Channel} {off : Nat} {r : Reg} (h : delayReg ch off = some r) :
    ∃ st j, r = .delay ch st j ∧ stageOffset st + delayNumber j = off := by
  unfold delayReg at h
  split at h
  case h_1 st j hst hj =>
    cases h
    exact ⟨st, j, rfl, by rw [stageOffset_of_stageAt hst, delayNumber_of_delayAt hj]; omega⟩
  case h_2 => cases h

/-- The index at an offset of block `b` of the register space. -/
def layoutIndex (b off : Nat) : RegIdx := BitVec.ofNat 12 (b * 0x80 + off)

theorem layoutIndex_of_toNat {idx : RegIdx} {b off : Nat} (hb : idx.toNat / 0x80 = b) (hoff : off = idx.toNat % 0x80) :
    layoutIndex b off = idx := by
  apply BitVec.eq_of_toNat_eq
  rw [layoutIndex, BitVec.toNat_ofNat]
  have := idx.isLt
  omega

theorem regIndex_sCoef (st : StageId) (k : CoefIdx) :
    regIndex (.sCoef st k) = layoutIndex 0 (stageOffset st + coefNumber k) := by
  rw [layoutIndex, Nat.zero_mul, Nat.zero_add, regIndex]

theorem regIndex_pCoef (st : StageId) (k : CoefIdx) :
    regIndex (.pCoef st k) = layoutIndex 2 (stageOffset st + coefNumber k) := by
  rw [layoutIndex, ← Nat.add_assoc, regIndex]

theorem regIndex_aCoef (ch : Channel) (st : StageId) (k : CoefIdx) :
    regIndex (.aCoef ch st k) =
      layoutIndex (4 + (channelBit ch).toNat) (stageOffset st + coefNumber k) := by
  rw [layoutIndex, ← Nat.add_assoc]
  cases ch <;> rfl

theorem regIndex_delay (ch : Channel) (st : StageId) (j : DelayIdx) :
    regIndex (.delay ch st j) =
      layoutIndex (6 + (channelBit ch).toNat) (stageOffset st + delayNumber j) := by
  rw [layoutIndex, ← Nat.add_assoc]
  cases ch <;> rfl

/-- A block of the register space is looked up by the offset in it. -/
theorem regAt_layoutIndex {b off : Nat} (hb : b < 8) (hoff : off < 0x80) :
    regAt (layoutIndex b off) =
      if b = 0 then coefReg .sCoef off
      else if b = 2 then coefReg .pCoef off
      else if b = 4 then coefReg (.aCoef .ch0) off
      else if b = 5 then coefReg (.aCoef .ch1) off
      else if b = 6 then delayReg .ch0 off
      else if b = 7 then delayReg .ch1 off
      else controlReg (b * 0x80 + off) := by
  have hn : (layoutIndex b off).toNat = b * 0x80 + off := by
    rw [layoutIndex, BitVec.toNat_ofNat]
    omega
  have hdiv : (b * 0x80 + off) / 0x80 = b := by omega
  have hmod : (b * 0x80 + off) % 0x80 = off := by omega
  simp only [regAt, hn, hdiv, hmod]

/-- R19: the place `regIndex` gives a register is the place the map finds it at. -/
theorem regAt_regIndex (r : Reg) : regAt (regIndex r) = some r := by
  have hcoef (st : StageId) (k : CoefIdx) : stageOffset st + coefNumber k < 0x80 := by
    have := coefNumber_lt k
    have := stageOffset_bound st
    omega
  have hdelay (st : StageId) (j : DelayIdx) : stageOffset st + delayNumber j < 0x80 := by
    have := delayNumber_lt j
    have := stageOffset_bound st
    omega
  cases r with
  | sCoef st k =>
    rw [regIndex_sCoef, regAt_layoutIndex (by decide) (hcoef st k)]
    exact coefReg_stageOffset _ st k
  | pCoef st k =>
    rw [regIndex_pCoef, regAt_layoutIndex (by decide) (hcoef st k)]
    exact coefReg_stageOffset _ st k
  | aCoef ch st k =>
    rw [regIndex_aCoef]
    cases ch <;> rw [regAt_layoutIndex (by decide) (hcoef st k)] <;> exact coefReg_stageOffset _ st k
  | delay ch st j =>
    rw [regIndex_delay]
    cases ch <;> rw [regAt_layoutIndex (by decide) (hdelay st j)] <;> exact delayReg_stageOffset _ st j
  | chCtrl ch => cases ch <;> rfl
  | sCtrl => rfl
  | pCtrl => rfl
  | status => rfl
  | sr => rfl
  | id => rfl
  | cfg => rfl

theorem regIndex_of_controlReg {idx : RegIdx} {r : Reg} (h : controlReg idx.toNat = some r) :
    regIndex r = idx := by
  unfold controlReg at h
  apply BitVec.eq_of_toNat_eq
  split_ifs at h with hn hn hn hn hn hn hn hn <;> cases h <;> exact hn.symm

/-- R19: a mapped index is the one `regIndex` gives its register. -/
theorem regIndex_of_regAt {idx : RegIdx} {r : Reg} (h : regAt idx = some r) : regIndex r = idx := by
  simp only [regAt] at h
  split_ifs at h with hb hb hb hb hb hb
  · obtain ⟨st, k, rfl, hoff⟩ := coefReg_some h
    exact (regIndex_sCoef st k).trans (layoutIndex_of_toNat hb hoff)
  · obtain ⟨st, k, rfl, hoff⟩ := coefReg_some h
    exact (regIndex_pCoef st k).trans (layoutIndex_of_toNat hb hoff)
  · obtain ⟨st, k, rfl, hoff⟩ := coefReg_some h
    exact (regIndex_aCoef .ch0 st k).trans (layoutIndex_of_toNat hb hoff)
  · obtain ⟨st, k, rfl, hoff⟩ := coefReg_some h
    exact (regIndex_aCoef .ch1 st k).trans (layoutIndex_of_toNat hb hoff)
  · obtain ⟨st, j, rfl, hoff⟩ := delayReg_some h
    exact (regIndex_delay .ch0 st j).trans (layoutIndex_of_toNat hb hoff)
  · obtain ⟨st, j, rfl, hoff⟩ := delayReg_some h
    exact (regIndex_delay .ch1 st j).trans (layoutIndex_of_toNat hb hoff)
  · exact regIndex_of_controlReg h

/-! ## The statements -/

/-- Settles O1, command by command. -/
theorem decodeOfEncode : Obligations.DecodeOfEncode := fun _ hwf => decode_encode hwf

/-- Settles O2: each part of the decoder accepts only the words its format spells. -/
theorem encodeOfDecode : Obligations.EncodeOfDecode := fun _ _ h => encode_of_decode h

/-- Settles O3: a legal transaction is the transaction of a command of the table, which decodes (O1); one that
decodes is legal unless bit 31 is set. -/
theorem decoderFollowsOpcodeTable : Obligations.DecoderFollowsOpcodeTable :=
  ⟨legalTransaction_iff, msb_iff_decode_reservedOp⟩

/-- Settles O4: each two rows have matches that differ at a bit which both masks cover. -/
theorem opcodeRowsAreDisjoint : Obligations.OpcodeRowsAreDisjoint :=
  opcodeRows_values_differ.imp not_spells_of_value_ne

/-- Settles O5: each layout is looked up by the stage and the number at an offset, which the offset determines. -/
theorem registerMapIsBijective : Obligations.RegisterMapIsBijective :=
  ⟨regAt_regIndex, fun _ _ h => regIndex_of_regAt h⟩

/-- Settles O6: the decoder evaluates on each of the words. -/
theorem specWordsDecode : Obligations.SpecWordsDecode := by
  unfold Obligations.SpecWordsDecode
  decide

end Sys2Proof.Machine
end

section
/-! PROOFS. What a command can do to the state: its effects as an inductive relation, what each effect leaves
unchanged, and the frame and error statements read off it. -/

namespace Sys2Proof.Machine

/-! ## The effects of a command -/

/-- What performing `i` in `s` can leave: one case per kind of effect, each naming the commands that have it. -/
inductive Performs (i : Instr) (s : State) : State → Prop
  /-- R107: an error's bit and a response 0 -/
  | raises (kind : Err) (w : Width) : Performs i s (raiseErr kind w s)
  /-- a response and nothing else -/
  | answers (r : Response) : Performs i s (s.respond r)
  /-- R92: a register write -/
  | writes (idx : RegIdx) (data : Word) (r : Reg) (hi : i = .wrreg idx data) (hat : regAt idx = some r)
    (hw : regWritable r = true) : Performs i s ((regWrite s r data).respond (.w32 0))
  /-- R94 -/
  | publishes (hi : i = .publish) : Performs i s (s.publish.respond (.w32 0))
  /-- R95, R96 -/
  | commits (hi : i = .sync ∨ i = .force) : Performs i s (s.clearAndCommit.respond (.w32 1))
  /-- R97 -/
  | processes (ch : Channel) (x : Word) (hi : i = .proc ch x) : Performs i s (processSample ch x s)
  /-- R98 to R100: a response, and NaN draws taken (log 4) -/
  | queries (n : Nat) (r : Response) : Performs i s (({ s with magDraws := n } : State).respond r)

theorem onlyOn_performs {i : Instr} {p : Port} {w : Width} {s run : State} (h : Performs i s run) :
    ∃ t, onlyOn p w s run = .next t ∧ Performs i s t := by
  by_cases hp : s.port = p
  · exact ⟨run, onlyOn_self hp, h⟩
  · exact ⟨_, onlyOn_other hp, .raises .port w⟩

theorem query_performs (i : Instr) (s : State) (freq : Word) (eval : DWord → DWord → Nat → DWord × Nat) :
    Performs i s (s.query freq eval) := by
  rcases query_cases s freq eval with ⟨-, h⟩ | ⟨f, fs, -, h⟩ <;> rw [h]
  · exact .answers _
  · exact .queries _ _

theorem writeRegister_performs (idx : RegIdx) (data : Word) (s : State) :
    Performs (.wrreg idx data) s (writeRegister idx data s) := by
  rcases writeRegister_cases idx data s with ⟨-, h⟩ | ⟨r, hat, hw, h⟩ | ⟨r, -, -, h⟩ <;> rw [h]
  · exact .raises .unmap .w32
  · exact .writes idx data r rfl hat hw
  · exact .raises .ro .w32

/-- R93: RDREG of an unmapped index raises `Err(UNMAP)`. -/
theorem exec_rdreg_of_unmapped {idx : RegIdx} (h : regAt idx = none) (s : State) :
    exec (.rdreg idx) s = .next (raiseErr .unmap .w32 s) := by
  show execRdreg idx s = _
  simp only [execRdreg, h]

theorem exec_rdreg_performs (idx : RegIdx) (s : State) :
    ∃ t, exec (.rdreg idx) s = .next t ∧ Performs (.rdreg idx) s t := by
  cases h : regAt idx with
  | none => exact ⟨_, exec_rdreg_of_unmapped h s, .raises .unmap .w32⟩
  | some r => exact ⟨_, exec_rdreg_of_regAt h s, .answers _⟩

theorem exec_sync_of_dirty {s : State} (h : s.dirty = true) :
    exec .sync s = .next (s.clearAndCommit.respond (.w32 1)) :=
  if_pos h

theorem exec_sync_of_clean {s : State} (h : s.dirty = false) : exec .sync s = .next (s.respond (.w32 0)) :=
  if_neg (Bool.not_eq_true _ ▸ h)

theorem exec_sync_performs (s : State) : ∃ t, exec .sync s = .next t ∧ Performs .sync s t := by
  cases h : s.dirty with
  | true => exact ⟨_, exec_sync_of_dirty h, .commits (.inl rfl)⟩
  | false => exact ⟨_, exec_sync_of_clean h, .answers _⟩

/-- R101: MAGQ.STG of a stage the section has is a query on CP of that stage's magnitude. -/
theorem exec_magqStg_of_stageOf {sec : Section} {stg : BitVec 2} {st : StageId} (h : stageOf sec stg = some st)
    (ch : Channel) (freq : Word) (s : State) :
    exec (.magqStg ch sec stg freq) s =
      onlyOn .cp .w64 s (s.query freq fun f fs n => (stageMag ((s.active ch).coef.get st) f fs, n)) := by
  show execMagqStg ch sec stg freq s = _
  simp only [execMagqStg, h]

/-- R47: MAGQ.STG of a stage the section does not have raises `Err(ILL)`. -/
theorem exec_magqStg_of_no_stage {sec : Section} {stg : BitVec 2} (h : stageOf sec stg = none) (ch : Channel)
    (freq : Word) (s : State) : exec (.magqStg ch sec stg freq) s = .next (raiseErr .ill .w64 s) := by
  show execMagqStg ch sec stg freq s = _
  simp only [execMagqStg, h]

theorem exec_magqStg_performs (ch : Channel) (sec : Section) (stg : BitVec 2) (freq : Word) (s : State) :
    ∃ t, exec (.magqStg ch sec stg freq) s = .next t ∧ Performs (.magqStg ch sec stg freq) s t := by
  cases h : stageOf sec stg with
  | none => exact ⟨_, exec_magqStg_of_no_stage h ch freq s, .raises .ill .w64⟩
  | some st =>
    rw [exec_magqStg_of_stageOf h]
    exact onlyOn_performs (query_performs _ s freq _)

/-- Every command answers, with one of the effects. -/
theorem exec_performs (i : Instr) (s : State) : ∃ t, exec i s = .next t ∧ Performs i s t := by
  cases i with
  | nop => exact ⟨_, rfl, .answers _⟩
  | wrreg idx data => exact onlyOn_performs (writeRegister_performs idx data s)
  | rdreg idx => exact exec_rdreg_performs idx s
  | publish => exact onlyOn_performs (.publishes rfl)
  | sync => exact exec_sync_performs s
  | force => exact ⟨_, rfl, .commits (.inr rfl)⟩
  | proc ch x => exact onlyOn_performs (.processes ch x rfl)
  | magqDb ch freq => exact onlyOn_performs (query_performs _ s freq _)
  | magqLin ch freq => exact onlyOn_performs (query_performs _ s freq _)
  | magqSec ch sec freq => exact onlyOn_performs (query_performs _ s freq _)
  | magqStg ch sec stg freq => exact exec_magqStg_performs ch sec stg freq s
  | reservedOp op low data => exact ⟨_, rfl, .raises .ill .w32⟩

theorem performs_of_exec {i : Instr} {s t : State} (h : exec i s = .next t) : Performs i s t := by
  obtain ⟨u, hu, hperf⟩ := exec_performs i s
  cases hu.symm.trans h
  exact hperf

/-! ## What each kind of effect leaves unchanged -/

theorem raiseErr_frame (kind : Err) (w : Width) (s : State) :
    raiseErr kind w s =
      { s with
        errIll := (s.setError kind).errIll
        errPort := (s.setError kind).errPort
        errUnmap := (s.setError kind).errUnmap
        errRo := (s.setError kind).errRo
        responses := (s.port, zeroResponse w) :: s.responses } := by
  cases kind <;> rfl

theorem processSample_frame (ch : Channel) (x : Word) (s : State) :
    processSample ch x s =
      { s with
        d0 := (processSample ch x s).d0
        d1 := (processSample ch x s).d1
        draws0 := (processSample ch x s).draws0
        draws1 := (processSample ch x s).draws1
        responses := (processSample ch x s).responses } := by
  cases ch <;> rfl

theorem processSample_responses (ch : Channel) (x : Word) (s : State) :
    (processSample ch x s).responses = (s.port, .w32 (s.process ch x).y) :: s.responses := by
  cases ch <;> rfl

/-- A command gives one response, to the port it was issued on. -/
theorem Performs.responses {i : Instr} {s t : State} (h : Performs i s t) :
    ∃ r, t.responses = (s.port, r) :: s.responses := by
  cases h with
  | raises kind w => exact ⟨_, by rw [raiseErr_frame]⟩
  | answers r => exact ⟨r, rfl⟩
  | writes idx data r _ _ _ => exact ⟨.w32 0, by rw [regWrite_eq]; rfl⟩
  | publishes _ => exact ⟨_, rfl⟩
  | commits _ => exact ⟨_, rfl⟩
  | processes ch x _ => exact ⟨_, processSample_responses ch x s⟩
  | queries n r => exact ⟨r, rfl⟩

/-- No command touches the parameters, the agents' queues, the schedule, or the port it was issued on. -/
theorem Performs.agents {i : Instr} {s t : State} (h : Performs i s t) :
    t.params = s.params ∧ t.cpQueue = s.cpQueue ∧ t.rpQueue = s.rpQueue ∧ t.schedule = s.schedule ∧
      t.port = s.port := by
  cases h with
  | raises kind w => rw [raiseErr_frame]; exact ⟨rfl, rfl, rfl, rfl, rfl⟩
  | writes idx data r _ _ _ => rw [regWrite_eq]; exact ⟨rfl, rfl, rfl, rfl, rfl⟩
  | processes ch x _ => rw [processSample_frame]; exact ⟨rfl, rfl, rfl, rfl, rfl⟩
  | _ => exact ⟨rfl, rfl, rfl, rfl, rfl⟩

/-- R11, R105: only PROC writes delay state. -/
theorem Performs.delay_or_proc {i : Instr} {s t : State} (h : Performs i s t) :
    (t.d0 = s.d0 ∧ t.d1 = s.d1) ∨ ∃ ch x, i = .proc ch x := by
  cases h with
  | raises kind w => rw [raiseErr_frame]; exact .inl ⟨rfl, rfl⟩
  | writes idx data r _ _ _ => rw [regWrite_eq]; exact .inl ⟨rfl, rfl⟩
  | processes ch x hi => exact .inr ⟨ch, x, hi⟩
  | _ => exact .inl ⟨rfl, rfl⟩

/-- R14: only WRREG writes S and SR. -/
theorem Performs.staging_or_wrreg {i : Instr} {s t : State} (h : Performs i s t) :
    (t.staging = s.staging ∧ t.sr = s.sr) ∨ ∃ idx data, i = .wrreg idx data := by
  cases h with
  | raises kind w => rw [raiseErr_frame]; exact .inl ⟨rfl, rfl⟩
  | writes idx data r hi _ _ => exact .inr ⟨idx, data, hi⟩
  | processes ch x _ => rw [processSample_frame]; exact .inl ⟨rfl, rfl⟩
  | _ => exact .inl ⟨rfl, rfl⟩

/-- R14: only PUBLISH writes P. -/
theorem Performs.pending_or_publish {i : Instr} {s t : State} (h : Performs i s t) :
    t.pending = s.pending ∨ i = .publish := by
  cases h with
  | raises kind w => rw [raiseErr_frame]; exact .inl rfl
  | writes idx data r _ _ _ => rw [regWrite_eq]; exact .inl rfl
  | publishes hi => exact .inr hi
  | processes ch x _ => rw [processSample_frame]; exact .inl rfl
  | _ => exact .inl rfl

/-- R14: only a commit writes the active sets. -/
theorem Performs.active_or_commit {i : Instr} {s t : State} (h : Performs i s t) :
    (t.a0 = s.a0 ∧ t.a1 = s.a1) ∨ i = .sync ∨ i = .force := by
  cases h with
  | raises kind w => rw [raiseErr_frame]; exact .inl ⟨rfl, rfl⟩
  | writes idx data r _ _ _ => rw [regWrite_eq]; exact .inl ⟨rfl, rfl⟩
  | commits hi => exact .inr hi
  | processes ch x _ => rw [processSample_frame]; exact .inl ⟨rfl, rfl⟩
  | _ => exact .inl ⟨rfl, rfl⟩

/-- R107: a command raises one error or leaves the error bits. -/
theorem Performs.errorBits_or_raises {i : Instr} {s t : State} (h : Performs i s t) :
    t.errorBits = s.errorBits ∨ ∃ kind w, t = raiseErr kind w s := by
  cases h with
  | raises kind w => exact .inr ⟨kind, w, rfl⟩
  | writes idx data r _ _ _ => rw [regWrite_eq]; exact .inl rfl
  | processes ch x _ => rw [processSample_frame]; exact .inl rfl
  | _ => exact .inl rfl

/-! ## Error bits (R22, R107) -/

/-- Every error bit set in `s` is set in `t`. -/
def ErrorsKept (s t : State) : Prop :=
  (s.errIll = true → t.errIll = true) ∧ (s.errPort = true → t.errPort = true) ∧
    (s.errUnmap = true → t.errUnmap = true) ∧ (s.errRo = true → t.errRo = true)

theorem errorsKept_raiseErr (kind : Err) (w : Width) (s : State) : ErrorsKept s (raiseErr kind w s) := by
  cases kind <;> simp [ErrorsKept]

theorem errorsKept_of_errorBits {s t : State} (h : t.errorBits = s.errorBits) : ErrorsKept s t := by
  simp only [State.errorBits, List.cons.injEq, and_true] at h
  obtain ⟨hill, hport, hunmap, hro⟩ := h
  exact ⟨hill ▸ id, hport ▸ id, hunmap ▸ id, hro ▸ id⟩

theorem Performs.errorsKept {i : Instr} {s t : State} (h : Performs i s t) : ErrorsKept s t := by
  rcases h.errorBits_or_raises with hbits | ⟨kind, w, rfl⟩
  · exact errorsKept_of_errorBits hbits
  · exact errorsKept_raiseErr kind w s

theorem raiseErr_eq_setError (kind : Err) (w : Width) (s : State) :
    raiseErr kind w s = { s.setError kind with responses := (s.port, zeroResponse w) :: s.responses } := by
  cases kind <;> rfl

theorem zeroResponse_cases (w : Width) : zeroResponse w = .w32 0 ∨ zeroResponse w = .w64 0 := by
  cases w with
  | w32 => exact .inl rfl
  | w64 => exact .inr rfl

/-! ## The statements -/

/-- Settles O18. -/
theorem onlyProcWritesDelayState : Obligations.OnlyProcWritesDelayState := by
  intro i s t h hproc
  refine (performs_of_exec h).delay_or_proc.resolve_right ?_
  rintro ⟨ch, x, hi⟩
  exact hproc ch x hi

/-- Settles O19: each buffer's writer is the only effect that changes it. -/
theorem buffersHaveOneWriterEach : Obligations.BuffersHaveOneWriterEach := by
  intro i s t h
  have hperf := performs_of_exec h
  refine ⟨fun hwrreg => ?staging, hperf.pending_or_publish.resolve_right, fun hsync hforce => ?active⟩
  case staging =>
    refine hperf.staging_or_wrreg.resolve_right ?_
    rintro ⟨idx, data, hi⟩
    exact hwrreg idx data hi
  case active => exact hperf.active_or_commit.resolve_right fun hi => hi.elim hsync hforce

/-- Settles O20: the one effect that changes an error bit is raising an error. -/
theorem errorChangesOnlyItsBit : Obligations.ErrorChangesOnlyItsBit := by
  intro i s t h hbits
  obtain ⟨kind, w, rfl⟩ := (performs_of_exec h).errorBits_or_raises.resolve_left hbits
  exact ⟨kind, zeroResponse w, zeroResponse_cases w, raiseErr_eq_setError kind w s⟩

end Sys2Proof.Machine
end

section
/-! PROOFS. What a step can do: the state a served command is performed in, the invariant of the block, the queues
and error bits across a step, and the state after reset. -/

namespace Sys2Proof.Machine

/-! ## What a step can do -/

/-- The state a command of port `p` is performed in, once its transaction is taken. -/
def State.served (s : State) (p : Port) (rest : List Transaction) : State := { s.setQueue p rest with port := p }

/-- A step holds the state, resets the block, or performs a command or raises `Err(ILL)` for the oldest
transaction of one port. -/
theorem step_performs {s t : State} (h : step s = .next t) :
    t = s.takeTurn.2 ∨ (s.takeTurn.1 = .reset ∧ t = s.takeTurn.2.resetBlock) ∨
      ∃ p x rest i, s.takeTurn.2.queue p = x :: rest ∧ Performs i (s.takeTurn.2.served p rest) t := by
  rcases hturn : s.takeTurn with ⟨p | _, s'⟩
  case serve =>
    rcases servePort_cases p s' with ⟨-, hidle⟩ | ⟨x, rest, hq, hserve⟩
    · simp only [step, fetch, hturn, hidle] at h
      cases h
      exact .inl rfl
    · refine .inr (.inr ⟨p, x, rest, ?_⟩)
      cases hdec : decode x with
      | ok i =>
        rw [step_of_decode_ok hturn hq hdec] at h
        exact ⟨i, hq, performs_of_exec h⟩
      | error e =>
        rw [step_of_decode_error hturn hq hdec] at h
        cases h
        exact ⟨.nop, hq, .raises .ill _⟩
  case reset =>
    simp only [step, fetch, hturn] at h
    cases h
    exact .inr (.inl ⟨rfl, rfl⟩)

/-- A reset turn is the first of the schedule. -/
theorem takeTurn_reset {s : State} (h : s.takeTurn.1 = .reset) : s.schedule.head? = some .reset := by
  unfold State.takeTurn at h
  cases hs : s.schedule with
  | cons turn rest =>
    rw [hs] at h
    exact congrArg some h
  | nil =>
    rw [hs] at h
    dsimp only at h
    split at h <;> [skip; split at h] <;> cases h

/-- Taking a turn and a transaction touches only the agents' part of the state and the noted port. -/
theorem served_frame (s : State) (p : Port) (rest : List Transaction) :
    s.takeTurn.2.served p rest =
      { s with
        schedule := s.takeTurn.2.schedule
        turns := s.takeTurn.2.turns
        cpQueue := (s.takeTurn.2.served p rest).cpQueue
        rpQueue := (s.takeTurn.2.served p rest).rpQueue
        port := p } := by
  rw [takeTurn_frame]
  cases p <;> rfl

/-! ## The invariant -/

theorem commit_eq_self_iff (s : State) :
    s.commit = s ↔ commitActive s.pending s.a0 = s.a0 ∧ commitActive s.pending s.a1 = s.a1 := by
  constructor
  · intro h
    exact ⟨congrArg State.a0 h, congrArg State.a1 h⟩
  · rintro ⟨h0, h1⟩
    rw [State.commit, h0, h1]

/-- The invariant is about S.CTRL, P, the active sets and DIRTY only. -/
theorem inv_of_same_setup {s t : State} (h : s.Inv) (hctrl : t.staging.ctrl &&& ~~~ctrlMask = 0)
    (hP : t.pending = s.pending) (h0 : t.a0 = s.a0) (h1 : t.a1 = s.a1) (hd : t.dirty = s.dirty) : t.Inv := by
  obtain ⟨hflags, hagree, ⟨-, hpres⟩, hclean⟩ := h
  unfold State.CleanMeansCommitted at hclean
  rw [commit_eq_self_iff, ← hP, ← h0, ← h1, ← hd, ← commit_eq_self_iff] at hclean
  refine ⟨?_, ?_, ⟨hctrl, hP ▸ hpres⟩, hclean⟩
  · rw [State.FlagsLegal, h0, h1]
    exact hflags
  · rw [State.ChannelsAgree, h0, h1]
    exact hagree

theorem configureCoefs_idem (ord : BitVec 2) (new old : Bank (Coefs Word)) :
    configureCoefs ord new (configureCoefs ord new old) = configureCoefs ord new old := by
  unfold configureCoefs
  dsimp only
  congr 1 <;> split <;> rfl

/-- R80: what a commit applies, it finds applied. -/
theorem commitActive_idem (p : Buffer) (a : ActiveSet) :
    commitActive p (commitActive p a) = commitActive p a := by
  simp only [commitActive, ActiveSet.mk.injEq, Chain.mk.injEq]
  refine ⟨⟨?lc, ?pk, ?hc⟩, ?actLc, ?actHc, trivial⟩
  case lc =>
    split
    · exact configureCoefs_idem _ _ _
    · rfl
  case hc =>
    split
    · exact configureCoefs_idem _ _ _
    · rfl
  all_goals split <;> rfl

theorem commit_idem (s : State) : s.commit.commit = s.commit := by
  rw [commit_eq_self_iff]
  exact ⟨commitActive_idem _ _, commitActive_idem _ _⟩

theorem flagsArePrefix_activeFlags (ord : BitVec 2) : flagsArePrefix (activeFlags ord) = true := by
  revert ord
  decide

/-- R17: a commit leaves legal active flags in a bank that had them. -/
theorem flagsArePrefix_commit {act : Bank Bool} (h : flagsArePrefix act = true) (val : Bool) (ord : BitVec 2) :
    flagsArePrefix (if val = true then activeFlags ord else act) = true := by
  split
  · exact flagsArePrefix_activeFlags ord
  · exact h

theorem inv_clearAndCommit {s : State} (h : s.Inv) (r : Response) : (s.clearAndCommit.respond r).Inv := by
  obtain ⟨hflags, hagree, hres, -⟩ := h
  simp only [Bool.and_eq_true] at hflags
  obtain ⟨⟨⟨hlc0, hhc0⟩, hlc1⟩, hhc1⟩ := hflags
  refine ⟨?flags, congrArg (commitActive s.pending) hagree, hres, fun _ => ?clean⟩
  case flags =>
    simp only [Bool.and_eq_true]
    exact ⟨⟨⟨flagsArePrefix_commit hlc0 _ _, flagsArePrefix_commit hhc0 _ _⟩, flagsArePrefix_commit hlc1 _ _⟩,
      flagsArePrefix_commit hhc1 _ _⟩
  case clean => exact (commit_eq_self_iff _).mpr ⟨commitActive_idem _ _, commitActive_idem _ _⟩

/-- R20: a register write leaves the reserved bits of S.CTRL 0. -/
theorem regWrite_reservedBits {s : State} (h : s.staging.ctrl &&& ~~~ctrlMask = 0) (r : Reg) (v : Word) :
    (regWrite s r v).staging.ctrl &&& ~~~ctrlMask = 0 := by
  cases r with
  | sCtrl =>
    show v &&& ctrlMask &&& ~~~ctrlMask = 0
    rw [BitVec.and_assoc]
    simp
  | _ => exact h

theorem Performs.inv {i : Instr} {s t : State} (h : s.Inv) (hperf : Performs i s t) : t.Inv := by
  obtain ⟨hflags, hagree, ⟨hsres, hpres⟩, hclean⟩ := id h
  cases hperf with
  | raises kind w =>
    rw [raiseErr_frame]
    exact inv_of_same_setup h hsres rfl rfl rfl rfl
  | writes idx data r _ _ _ =>
    have hw := regWrite_reservedBits hsres r data
    rw [regWrite_eq]
    exact inv_of_same_setup h hw rfl rfl rfl rfl
  | publishes _ => exact ⟨hflags, hagree, ⟨hsres, hsres⟩, fun hd => Bool.noConfusion hd⟩
  | commits _ => exact inv_clearAndCommit h _
  | processes ch x _ =>
    rw [processSample_frame]
    exact inv_of_same_setup h hsres rfl rfl rfl rfl
  | _ => exact inv_of_same_setup h hsres rfl rfl rfl rfl

theorem inv_reset : State.reset.Inv := by
  decide

theorem inv_reset_ctrl : State.reset.staging.ctrl &&& ~~~ctrlMask = 0 := by
  decide

/-- R16, R17, R20, R96: a turn, a reset and every effect of a command keep the invariant. -/
theorem inv_of_step {s t : State} (h : s.Inv) (hstep : step s = .next t) : t.Inv := by
  obtain ⟨-, -, ⟨hsres, -⟩, -⟩ := id h
  rcases step_performs hstep with rfl | ⟨-, rfl⟩ | ⟨p, x, rest, i, -, hperf⟩
  · rw [takeTurn_frame]
    exact inv_of_same_setup h hsres rfl rfl rfl rfl
  · exact inv_of_same_setup inv_reset inv_reset_ctrl rfl rfl rfl rfl
  · refine hperf.inv ?_
    rw [served_frame]
    exact inv_of_same_setup h hsres rfl rfl rfl rfl

/-! ## Queues, responses and parameters across a step -/

theorem takeTurn_agents (s : State) :
    s.takeTurn.2.params = s.params ∧ s.takeTurn.2.cpQueue = s.cpQueue ∧ s.takeTurn.2.rpQueue = s.rpQueue ∧
      s.takeTurn.2.responses = s.responses := by
  rw [takeTurn_frame]
  exact ⟨rfl, rfl, rfl, rfl⟩

theorem params_of_step {s t : State} (h : step s = .next t) : t.params = s.params := by
  obtain ⟨hparams, -⟩ := takeTurn_agents s
  rcases step_performs h with rfl | ⟨-, rfl⟩ | ⟨p, x, rest, i, -, hperf⟩
  · exact hparams
  · exact hparams
  · obtain ⟨hperf, -⟩ := hperf.agents
    rw [hperf, served_frame]

/-- R37, R42: the transaction a step takes is the oldest of its port, and its response goes to that port. -/
theorem queues_of_step {s t : State} (h : step s = .next t) :
    (t.cpQueue = s.cpQueue ∧ t.rpQueue = s.rpQueue ∧ t.responses = s.responses) ∨
    (∃ x r, s.cpQueue = x :: t.cpQueue ∧ t.rpQueue = s.rpQueue ∧ t.responses = (.cp, r) :: s.responses) ∨
    (∃ x r, t.cpQueue = s.cpQueue ∧ s.rpQueue = x :: t.rpQueue ∧ t.responses = (.rp, r) :: s.responses) := by
  obtain ⟨-, hcp, hrp, hresp⟩ := takeTurn_agents s
  rcases step_performs h with rfl | ⟨-, rfl⟩ | ⟨p, x, rest, i, hq, hperf⟩
  · exact .inl ⟨hcp, hrp, hresp⟩
  · exact .inl ⟨hcp, hrp, hresp⟩
  · obtain ⟨-, htcp, htrp, -, -⟩ := hperf.agents
    obtain ⟨r, hr⟩ := hperf.responses
    cases p with
    | cp => exact .inr (.inl ⟨x, r, by rw [← hcp, htcp]; exact hq, htrp.trans hrp, by rw [hr, ← hresp]; rfl⟩)
    | rp => exact .inr (.inr ⟨x, r, htcp.trans hcp, by rw [← hrp, htrp]; exact hq, by rw [hr, ← hresp]; rfl⟩)

theorem errorsKept_of_step {s t : State} (hturn : s.schedule.head? ≠ some .reset) (h : step s = .next t) :
    ErrorsKept s t := by
  rcases step_performs h with rfl | ⟨hreset, -⟩ | ⟨p, x, rest, i, -, hperf⟩
  · rw [takeTurn_frame]
    exact errorsKept_of_errorBits rfl
  · exact absurd (takeTurn_reset hreset) hturn
  · have hkept := hperf.errorsKept
    rw [served_frame] at hkept
    exact hkept

/-! ## Idle and reset turns -/

theorem step_of_idle {s s' : State} {p : Port} (hturn : s.takeTurn = (.serve p, s')) (hq : s'.queue p = []) :
    step s = .next s' := by
  simp only [step, fetch, hturn, servePort, hq]

theorem step_of_reset {s s' : State} (hturn : s.takeTurn = (.reset, s')) : step s = .next s'.resetBlock := by
  simp only [step, fetch, hturn]

theorem takeTurn_of_schedule {s : State} {turn : Turn} {rest : List Turn} (h : s.schedule = turn :: rest) :
    s.takeTurn = (turn, { s with schedule := rest }) := by
  simp only [State.takeTurn, h]

theorem takeTurn_of_rpQueue_nil {s : State} (h : s.schedule = []) (hrp : s.rpQueue = []) :
    s.takeTurn = (.serve .cp, s) := by
  simp only [State.takeTurn, h, hrp, if_true]

theorem queue_of_schedule (s : State) (rest : List Turn) (p : Port) :
    ({ s with schedule := rest } : State).queue p = s.queue p := by
  cases p <;> rfl

/-! ## Registers after reset (R19, R29) -/

theorem Chain.get_const {α : Type} (v : α) (st : StageId) : (Chain.const v).get st = v := by
  have hbank (i : BitVec 2) : (Bank.const v).get i = v := by
    rcases slot_cases i with rfl | rfl | rfl | rfl <;> rfl
  cases st with
  | lc i => exact hbank i
  | pk => rfl
  | hc i => exact hbank i

theorem identityCoefs_get (k : CoefIdx) : Coefs.get identityCoefs k = if k = .b0 then 0x3F800000 else 0 := by
  cases k <;> rfl

/-- Every coefficient of a buffer or active set after reset is one of the identity set. -/
theorem identityChain_get (st : StageId) (k : CoefIdx) :
    Coefs.get ((Chain.const identityCoefs).get st) k = if k = .b0 then 0x3F800000 else 0 := by
  rw [Chain.get_const, identityCoefs_get]

theorem resetDelay_get (st : StageId) (j : DelayIdx) : (resetDelay.get st).get j = 0 := by
  rw [resetDelay, Chain.get_const]
  cases j <;> rfl

/-! ## The statements -/

/-- Settles O15: by `step_performs`, with a commit being idempotent for the clause about DIRTY. -/
theorem stepKeepsInvariant : Obligations.StepKeepsInvariant := fun _ _ h hstep => inv_of_step h hstep

/-- Settles O9: `step` answers for each of the four things a turn can find, a command by `exec_performs`. -/
theorem everyStepAnswersNext : Obligations.EveryStepAnswersNext := by
  have hexec (i : Instr) (s : State) : ∃ t, exec i s = .next t := (exec_performs i s).imp fun _ h => h.1
  refine ⟨fun s => ?_, hexec⟩
  rcases step_cases s with ⟨s', -, h⟩ | ⟨s', -, h⟩ | ⟨i, s', -, h⟩ | ⟨e, w, s', -, h⟩ <;> rw [h]
  · exact ⟨_, rfl⟩
  · exact ⟨_, rfl⟩
  · exact hexec i s'
  · exact ⟨_, rfl⟩

/-- Settles O10. -/
theorem stepServesOnePortInIssueOrder : Obligations.StepServesOnePortInIssueOrder := fun _ _ h => queues_of_step h

/-- Settles O16. -/
theorem errorBitsAreSticky : Obligations.ErrorBitsAreSticky := fun _ _ hturn h => errorsKept_of_step hturn h

/-- Settles O17. -/
theorem stepKeepsParameters : Obligations.StepKeepsParameters := fun _ _ h => params_of_step h

/-- Settles O7. -/
theorem stepRunsDecodedCommand : Obligations.StepRunsDecodedCommand :=
  fun _ _ _ _ _ _ hturn hq hdec => step_of_decode_ok hturn hq hdec

/-- Settles O11: with nothing scheduled or waiting the turn is one of CP, whose queue is empty. -/
theorem idleTurnHoldsTheBlock : Obligations.IdleTurnHoldsTheBlock := by
  refine ⟨fun s hs hcp hrp => step_of_idle (takeTurn_of_rpQueue_nil hs hrp) hcp, fun s p rest hs hq => ?_⟩
  exact step_of_idle (takeTurn_of_schedule hs) ((queue_of_schedule s rest p).trans hq)

/-- Settles O12. -/
theorem resetEventRestoresResetState : Obligations.ResetEventRestoresResetState :=
  fun _ _ hs => step_of_reset (takeTurn_of_schedule hs)

/-- Settles O13: after reset every coefficient is one of the identity set and every delay register is +0. -/
theorem resetRegisterValues : Obligations.ResetRegisterValues := by
  refine ⟨identityChain_get, identityChain_get, fun ch st k => ?acoef, fun ch st j => ?delay, fun ch => ?chCtrl,
    rfl, rfl, ?status, rfl, rfl, cfgWord_default⟩
  case acoef => cases ch <;> exact identityChain_get st k
  case delay => cases ch <;> exact resetDelay_get st j
  case chCtrl => cases ch <;> decide
  case status => decide

/-- Settles O14. -/
theorem invariantHoldsAtReset : Obligations.InvariantHoldsAtReset := inv_reset

/-- Settles O34. -/
theorem commitIsIdempotent : Obligations.CommitIsIdempotent := commit_idem

end Sys2Proof.Machine
end

section
/-! PROOFS. The register and update commands (R91 to R96), what each bit of the views shows (R21, R22), the value
that WRCTRL writes (R49), and the byte-serial transport (R30, R31). -/

namespace Sys2Proof.Machine

/-! ## Register reads after a write (R19, R92) -/

/-- No register shows the responses. -/
theorem regRead_respond (s : State) (a : Response) (r : Reg) : regRead (s.respond a) r = regRead s r := by
  cases r with
  | aCoef ch st k => cases ch <;> rfl
  | delay ch st j => cases ch <;> rfl
  | chCtrl ch => cases ch <;> rfl
  | _ => rfl

/-- R20, R92: a writable register reads back what was written, S.CTRL without its reserved bits. -/
theorem regRead_regWrite_self {r : Reg} (h : regWritable r = true) (s : State) (v : Word) :
    regRead (regWrite s r v) r = if r = .sCtrl then v &&& ctrlMask else v := by
  cases r with
  | sCoef st k =>
    show Coefs.get ((s.staging.coef.set st (Coefs.set (s.staging.coef.get st) k v)).get st) k = v
    rw [Chain.get_set, if_pos rfl, Coefs.get_set, if_pos rfl]
  | sCtrl => rfl
  | sr => rfl
  | _ => cases h

/-- A write to a staged coefficient leaves every other one. -/
theorem sCoef_write_other (c : Chain (Coefs Word)) {st st' : StageId} {k k' : CoefIdx} (v : Word)
    (h : st' = st → k' ≠ k) :
    Coefs.get ((c.set st (Coefs.set (c.get st) k v)).get st') k' = Coefs.get (c.get st') k' := by
  rw [Chain.get_set]
  by_cases hst : st' = st
  · rw [if_pos hst, Coefs.get_set, if_neg (h hst), hst]
  · rw [if_neg hst]

/-- R92: a register write leaves every other register. -/
theorem regRead_regWrite_other {r r' : Reg} (h : r' ≠ r) (s : State) (v : Word) :
    regRead (regWrite s r v) r' = regRead s r' := by
  cases r with
  | sCoef st k =>
    cases r' with
    | sCoef st' k' => exact sCoef_write_other _ v fun hst hk => h (by rw [hst, hk])
    | _ => rfl
  | sCtrl =>
    cases r' with
    | sCtrl => exact absurd rfl h
    | _ => rfl
  | sr =>
    cases r' with
    | sr => exact absurd rfl h
    | _ => rfl
  | _ => rfl

theorem regWritable_iff (r : Reg) : regWritable r = true ↔ (∃ st k, r = .sCoef st k) ∨ r = .sCtrl ∨ r = .sr := by
  cases r <;> simp [regWritable]

theorem writeRegister_of_writable {idx : RegIdx} {r : Reg} (h : regAt idx = some r) (hw : regWritable r = true)
    (data : Word) (s : State) : writeRegister idx data s = (regWrite s r data).respond (.w32 0) := by
  simp [writeRegister, h, hw]

theorem writeRegister_of_unmapped {idx : RegIdx} (h : regAt idx = none) (data : Word) (s : State) :
    writeRegister idx data s = raiseErr .unmap .w32 s := by
  simp [writeRegister, h]

/-- R89: WRREG from RP raises `Err(PORT)`. -/
theorem exec_wrreg_of_rp {s : State} (hrp : s.port = .rp) (idx : RegIdx) (data : Word) :
    exec (.wrreg idx data) s = .next (raiseErr .port .w32 s) :=
  onlyOn_other (by rw [hrp]; decide)

/-! ## STATUS and CHn.CTRL bit by bit (R21, R22) -/

theorem getLsbD_statusWord (s : State) (i : Nat) :
    (statusWord s).getLsbD i =
      if i = 0 then s.dirty else if i = 8 then s.errIll else if i = 9 then s.errPort
      else if i = 10 then s.errUnmap else if i = 11 then s.errRo else false := by
  simp (disch := decide) only [statusWord, BitVec.getLsbD_or, getLsbD_bitAt]
  split_ifs <;> simp [*]

theorem getLsbD_chCtrlWord (a : ActiveSet) (i : Nat) :
    (chCtrlWord a).getLsbD i =
      if i < 4 then a.actLc.get (BitVec.ofNat 2 i)
      else if i < 8 then a.actHc.get (BitVec.ofNat 2 (i - 4))
      else if i = 8 then a.byp.lc else if i = 9 then a.byp.pk else if i = 10 then a.byp.hc else false := by
  simp (disch := decide) only [chCtrlWord, BitVec.getLsbD_or, getLsbD_bitAt]
  by_cases hi : i < 11
  · interval_cases i <;> simp [Bank.get]
  · have hne (j : Nat) (hj : j < 11) : ¬ i = j := by omega
    have h4 : ¬ i < 4 := by omega
    have h8 : ¬ i < 8 := by omega
    simp (disch := decide) [hne, h4, h8]

/-! ## PUBLISH, SYNC and FORCE (R94 to R96) -/

theorem exec_publish_of_cp {s : State} (hcp : s.port = .cp) :
    exec .publish s = .next (s.publish.respond (.w32 0)) :=
  onlyOn_self hcp

theorem publish_of_exec {s t : State} (hcp : s.port = .cp) (h : exec .publish s = .next t) :
    t = s.publish.respond (.w32 0) := by
  cases (exec_publish_of_cp hcp).symm.trans h
  rfl

theorem exec_force (s : State) : exec .force s = .next (s.clearAndCommit.respond (.w32 1)) := rfl

/-- After a SYNC DIRTY is 0. -/
theorem dirty_of_sync {s t : State} (h : exec .sync s = .next t) : t.dirty = false := by
  cases hd : s.dirty with
  | true =>
    cases (exec_sync_of_dirty hd).symm.trans h
    rfl
  | false =>
    cases (exec_sync_of_clean hd).symm.trans h
    exact hd

/-- R83, R96: with DIRTY 0 and the pending buffer committed, clearing and committing changes nothing. -/
theorem clearAndCommit_of_clean {s : State} (h : s.CleanMeansCommitted) (hd : s.dirty = false) :
    s.clearAndCommit = s := by
  have hsame : ({ s with dirty := false } : State) = s := by rw [← hd]
  rw [State.clearAndCommit, hsame, h hd]

/-! ## The value WRCTRL writes (R49) -/

theorem inList_le (b : Bool) : inList b ≤ 1 := by
  cases b <;> decide

theorem inList_eq_one (b : Bool) : decide (inList b = 1) = b := by
  cases b <;> rfl

/-- The sum of R49 does not overflow the word. -/
theorem wrctrlValue_toNat (lc hc : BitVec 2) (byp val : SectionSet) :
    (wrctrlValue lc hc byp val).toNat =
      lc.toNat + 4 * hc.toNat + 16 * inList byp.lc + 32 * inList byp.pk + 64 * inList byp.hc
        + 256 * inList val.lc + 512 * inList val.pk + 1024 * inList val.hc := by
  rw [wrctrlValue, BitVec.toNat_ofNat]
  apply Nat.mod_eq_of_lt
  have := inList_le byp.lc
  have := inList_le byp.pk
  have := inList_le byp.hc
  have := inList_le val.lc
  have := inList_le val.pk
  have := inList_le val.hc
  omega

/-- A bit of a word from the digit of its number. -/
theorem getLsbD_eq_of_digit {c : Word} {k : Nat} {b : Bool} (h : c.toNat / 2 ^ k % 2 = inList b) :
    c.getLsbD k = b := by
  rw [getLsbD_eq_decide, h, inList_eq_one]

theorem getLsbD_ctrlMask (i : Nat) : ctrlMask.getLsbD i = decide (i < 11 ∧ i ≠ 7) := by
  by_cases hi : i < 11
  · interval_cases i <;> rfl
  · rw [BitVec.getLsbD, Nat.testBit_lt_two_pow]
    · simp [hi]
    · calc ctrlMask.toNat < 2 ^ 11 := by decide
        _ ≤ 2 ^ i := Nat.pow_le_pow_right (by decide) (by omega)

/-- R20: a control word with nothing above bit 10 and nothing in bit 7 keeps all its bits. -/
theorem and_ctrlMask_of_fields {c : Word} (hlt : c.toNat < 2 ^ 11) (h7 : c.toNat / 128 % 2 = 0) :
    c &&& ctrlMask = c := by
  apply BitVec.eq_of_getLsbD_eq
  intro i _
  rw [BitVec.getLsbD_and, getLsbD_ctrlMask]
  by_cases hin : i < 11 ∧ i ≠ 7
  · simp [hin]
  · have hbit : c.getLsbD i = false := by
      by_cases hi : i = 7
      · subst hi
        exact getLsbD_eq_of_digit (b := false) h7
      · rw [BitVec.getLsbD]
        refine Nat.testBit_lt_two_pow (hlt.trans_le (Nat.pow_le_pow_right (by decide) ?_))
        omega
    simp [hbit]

/-! ## Bytes (R30, R31) -/

theorem wordOfBytes_wordBytes (order : ByteOrder) (w : Word) :
    ∃ b0 b1 b2 b3, wordBytes order w = [b0, b1, b2, b3] ∧ wordOfBytes order b0 b1 b2 b3 = w := by
  cases order with
  | little =>
    refine ⟨_, _, _, _, rfl, ?_⟩
    simp (disch := decide) only [wordOfBytes, BitVec.extractLsb'_append_extractLsb'_eq_extractLsb']
    exact BitVec.extractLsb'_eq_self
  | big =>
    refine ⟨_, _, _, _, rfl, ?_⟩
    simp (disch := decide) only [wordOfBytes, BitVec.extractLsb'_append_extractLsb'_eq_extractLsb']
    exact BitVec.extractLsb'_eq_self

theorem transactionOfBytes_transactionBytes (order : ByteOrder) (t : Transaction) :
    transactionOfBytes order (transactionBytes order t) = some t := by
  obtain ⟨w, d⟩ := t
  obtain ⟨b0, b1, b2, b3, hbytes, hword⟩ := wordOfBytes_wordBytes order w
  cases d with
  | none => simp only [transactionBytes, hbytes, transactionOfBytes, hword]
  | some d =>
    obtain ⟨c0, c1, c2, c3, hbytes', hword'⟩ := wordOfBytes_wordBytes order d
    simp only [transactionBytes, hbytes, hbytes', List.cons_append, List.nil_append, transactionOfBytes, hword,
      hword']

theorem wordBytes_little_extractLsb' (v : DWord) (k : Nat) :
    wordBytes .little (v.extractLsb' k 32) =
      [v.extractLsb' k 8, v.extractLsb' (k + 8) 8, v.extractLsb' (k + 16) 8, v.extractLsb' (k + 24) 8] := by
  have hbyte (j : Nat) (hj : j + 8 ≤ 32) :
      (v.extractLsb' k 32).extractLsb' j 8 = v.extractLsb' (k + j) 8 := by
    ext i hi
    simp [show j + i < 32 by omega, Nat.add_assoc]
  simp only [wordBytes, hbyte _ (show 0 + 8 ≤ 32 by decide), hbyte _ (show 8 + 8 ≤ 32 by decide),
    hbyte _ (show 16 + 8 ≤ 32 by decide), hbyte _ (show 24 + 8 ≤ 32 by decide), Nat.add_zero]

/-! ## The statements -/

/-- Settles O24: WRREG on CP of a writable register is a register write, which the read-back lemmas describe. -/
theorem writeRegisterStoresAndFrames : Obligations.WriteRegisterStoresAndFrames := by
  intro s idx r data hcp hat hr
  have hw := (regWritable_iff r).mpr hr
  refine ⟨(regWrite s r data).respond (.w32 0), ?exec, ?self, fun r' hr' => ?other, ?frame⟩
  case exec => rw [exec_wrreg_of_cp hcp, writeRegister_of_writable hat hw]
  case self => exact (regRead_respond _ _ _).trans (regRead_regWrite_self hw s data)
  case other => exact (regRead_respond _ _ _).trans (regRead_regWrite_other hr' s data)
  case frame =>
    rw [regWrite_eq, ← hcp]
    rfl

/-- Settles O29. -/
theorem statusAndChannelControlBits : Obligations.StatusAndChannelControlBits :=
  ⟨getLsbD_statusWord, fun s ch => getLsbD_chCtrlWord (s.active ch)⟩

/-- Settles O33: with DIRTY set both clear it and commit; with DIRTY clear a commit finds P applied. -/
theorem syncAndForceLeaveTheSameState : Obligations.SyncAndForceLeaveTheSameState := by
  intro s t u hclean hsync hforce
  cases (exec_force s).symm.trans hforce
  cases hd : s.dirty with
  | true =>
    cases (exec_sync_of_dirty hd).symm.trans hsync
    rfl
  | false =>
    cases (exec_sync_of_clean hd).symm.trans hsync
    rw [clearAndCommit_of_clean hclean hd]
    rfl

/-- Settles O59. -/
theorem byteTransportIsLossless : Obligations.ByteTransportIsLossless := by
  refine ⟨transactionOfBytes_transactionBytes, fun v => ?_⟩
  simp only [responseBytes, responseWords, List.flatMap_cons, List.flatMap_nil, List.append_nil,
    wordBytes_little_extractLsb']
  rfl

/-- Settles O22. -/
theorem reservedOpcodeRaisesIll : Obligations.ReservedOpcodeRaisesIll := fun _ _ _ _ => rfl

/-- Settles O23. -/
theorem nopReturnsZero : Obligations.NopReturnsZero := fun _ => rfl

/-- Settles O25: the port is checked first, then the map, then access. -/
theorem writeRegisterErrors : Obligations.WriteRegisterErrors := by
  intro s idx data
  refine ⟨fun hrp => ?port, fun hcp hun => ?unmap, fun r hcp hat hcoef hctrl hsr => ?ro⟩
  case port =>
    rw [exec_wrreg_of_rp hrp, ← hrp]
    rfl
  case unmap =>
    rw [exec_wrreg_of_cp hcp, writeRegister_of_unmapped hun, ← hcp]
    rfl
  case ro =>
    refine exec_wrreg_readOnly hat (Bool.eq_false_iff.mpr fun hw => ?_) hcp data
    rcases (regWritable_iff r).mp hw with ⟨st, k, h⟩ | h | h
    · exact hcoef st k h
    · exact hctrl h
    · exact hsr h

/-- Settles O26. -/
theorem readRegisterReturnsItOnly : Obligations.ReadRegisterReturnsItOnly :=
  fun s _ => ⟨fun _ hat => exec_rdreg_of_regAt hat s, fun hun => exec_rdreg_of_unmapped hun s⟩

/-- Settles O30. -/
theorem publishCopiesStagingToPending : Obligations.PublishCopiesStagingToPending := by
  intro s hcp
  rw [exec_publish_of_cp hcp, ← hcp]
  rfl

/-- Settles O31: a SYNC leaves DIRTY 0, so a second one finds it clear. -/
theorem syncTestsAndClearsDirty : Obligations.SyncTestsAndClearsDirty :=
  ⟨fun _ hd => exec_sync_of_dirty hd, fun _ hd => exec_sync_of_clean hd,
    fun _ _ h => exec_sync_of_clean (dirty_of_sync h)⟩

/-- Settles O32. -/
theorem forceCommitsAlways : Obligations.ForceCommitsAlways := exec_force

/-- Settles O36: the second PUBLISH overwrites P and DIRTY, all that the first one wrote. -/
theorem supersededSnapshotLeavesNoTrace : Obligations.SupersededSnapshotLeavesNoTrace := by
  intro s t u v b hcp ht hu hv
  obtain rfl := publish_of_exec hcp ht
  obtain rfl := publish_of_exec (s := { s.publish.respond (.w32 0) with staging := b }) hcp hu
  obtain rfl := publish_of_exec (s := { s with staging := b }) hcp hv
  rfl

/-- Settles O60: the summands of R49 are the digits of the value at the places of R20. -/
theorem wrctrlFieldsReadBack : Obligations.WrctrlFieldsReadBack := by
  intro lc hc byp val
  have hv := wrctrlValue_toNat lc hc byp val
  have := inList_le byp.lc
  have := inList_le byp.pk
  have := inList_le byp.hc
  have := inList_le val.lc
  have := inList_le val.pk
  have := inList_le val.hc
  have := lc.isLt
  have := hc.isLt
  refine ⟨BitVec.eq_of_toNat_eq ?_, BitVec.eq_of_toNat_eq ?_, ?_, getLsbD_eq_of_digit ?_, getLsbD_eq_of_digit ?_,
    getLsbD_eq_of_digit ?_, and_ctrlMask_of_fields ?_ ?_⟩
  · rw [ctrlLcOrd_toNat]
    omega
  · rw [ctrlHcOrd_toNat]
    omega
  · rw [ctrlBypass, Bypass.mk.injEq]
    refine ⟨getLsbD_eq_of_digit ?_, getLsbD_eq_of_digit ?_, getLsbD_eq_of_digit ?_⟩ <;> omega
  all_goals omega

end Sys2Proof.Machine
end

section
/-! PROOFS. Processing (R73, R77 to R82, R97): the chain as a run through its nine stages, what PROC leaves of the
delay state, and the two channels side by side. -/

namespace Sys2Proof.Machine

/-! ## A run through the stages (R73, R77, R78) -/

theorem Chain.set_get_self {α : Type} (c : Chain α) (st : StageId) : c.set st (c.get st) = c := by
  have hbank (b : Bank α) (i : BitVec 2) : b.set i (b.get i) = b := by
    rcases slot_cases i with rfl | rfl | rfl | rfl <;> rfl
  cases st with
  | lc i => simp only [Chain.set, Chain.get, hbank]
  | pk => rfl
  | hc i => simp only [Chain.set, Chain.get, hbank]

theorem runStage_of_runs {a : ActiveSet} {st : StageId} (h : runs a st = true) (form : StageForm) (ar : Arith Word)
    (o : ChainOut Word) :
    runStage form ar a o st =
      let r := stageProcess form ar (a.coef.get st) (o.delay.get st) o.y o.draws
      ⟨r.y, o.delay.set st r.delay, r.draws⟩ :=
  if_pos h

theorem runStage_of_frozen {a : ActiveSet} {st : StageId} (h : runs a st = false) (form : StageForm)
    (ar : Arith Word) (o : ChainOut Word) : runStage form ar a o st = o :=
  if_neg (by rw [h]; decide)

/-- A stage of the sequence is a stage slot with the flag `runs`. -/
theorem runStage_eq_stageWhen (form : StageForm) (ar : Arith Word) (a : ActiveSet) (o : ChainOut Word)
    (st : StageId) :
    runStage form ar a o st =
      let r := stageWhen (runs a st) form ar (a.coef.get st) (o.delay.get st) o.y o.draws
      ⟨r.y, o.delay.set st r.delay, r.draws⟩ := by
  cases h : runs a st with
  | true => exact runStage_of_runs h form ar o
  | false => simp only [runStage_of_frozen h, stageWhen_off, Chain.set_get_self]

/-- A bank is its four stage slots, none of which runs when the section is bypassed. -/
theorem bankWhen_eq_slots {α : Type} (on : Bool) (form : StageForm) (ar : Arith α) (act : Bank Bool)
    (c : Bank (Coefs α)) (d : Bank (Delay α)) (x : α) (n : Nat) :
    bankWhen on form ar act c d x n =
      let r0 := stageWhen (on && act.s0) form ar c.s0 d.s0 x n
      let r1 := stageWhen (on && act.s1) form ar c.s1 d.s1 r0.y r0.draws
      let r2 := stageWhen (on && act.s2) form ar c.s2 d.s2 r1.y r1.draws
      let r3 := stageWhen (on && act.s3) form ar c.s3 d.s3 r2.y r2.draws
      ⟨r3.y, ⟨r0.delay, r1.delay, r2.delay, r3.delay⟩, r3.draws⟩ := by
  cases on <;> rfl

theorem chainProcess_eq_foldl (form : StageForm) (ar : Arith Word) (a : ActiveSet) (d : Chain (Delay Word))
    (x : Word) (n : Nat) :
    chainProcess form ar a d x n = chainOrder.foldl (runStage form ar a) ⟨x, d, n⟩ := by
  simp only [chainProcess, bankWhen_eq_slots, chainOrder, List.foldl_cons, List.foldl_nil, runStage_eq_stageWhen]
  rfl

/-- R74, R79: a stage that does not run keeps its delay state, whichever stages the sample runs through. -/
theorem foldl_runStage_frozen (form : StageForm) (ar : Arith Word) (a : ActiveSet) {st : StageId}
    (h : runs a st = false) (sts : List StageId) (o : ChainOut Word) :
    (sts.foldl (runStage form ar a) o).delay.get st = o.delay.get st := by
  induction sts generalizing o with
  | nil => rfl
  | cons st' sts ih =>
    rw [List.foldl_cons, ih]
    cases hruns : runs a st' with
    | false => rw [runStage_of_frozen hruns]
    | true =>
      rw [runStage_of_runs hruns]
      refine (Chain.get_set _ _ _ _).trans (if_neg ?_)
      rintro rfl
      cases hruns.symm.trans h

theorem process_frozen (s : State) (ch : Channel) (x : Word) {st : StageId} (h : runs (s.active ch) st = false) :
    (s.process ch x).delay.get st = (s.delay ch).get st := by
  rw [State.process, chainProcess_eq_foldl, foldl_runStage_frozen _ _ _ h]

/-- R78: with every section bypassed the chain passes sample and delay state. -/
theorem chainProcess_of_bypassed (form : StageForm) (ar : Arith Word) {a : ActiveSet}
    (h : a.byp = ⟨true, true, true⟩) (d : Chain (Delay Word)) (x : Word) (n : Nat) :
    chainProcess form ar a d x n = ⟨x, d, n⟩ := by
  simp only [chainProcess, h]
  rfl

/-! ## PROC on the state (R97) -/

theorem exec_proc_of_rp {s : State} (hrp : s.port = .rp) (ch : Channel) (x : Word) :
    exec (.proc ch x) s = .next (processSample ch x s) :=
  onlyOn_self hrp

theorem exec_proc_of_cp {s : State} (hcp : s.port = .cp) (ch : Channel) (x : Word) :
    exec (.proc ch x) s = .next (raiseErr .port .w32 s) :=
  onlyOn_other (by rw [hcp]; decide)

theorem proc_of_exec {s t : State} (hrp : s.port = .rp) {ch : Channel} {x : Word}
    (h : exec (.proc ch x) s = .next t) : t = processSample ch x s := by
  cases (exec_proc_of_rp hrp ch x).symm.trans h
  rfl

theorem processSample_delay_self (ch : Channel) (x : Word) (s : State) :
    (processSample ch x s).delay ch = (s.process ch x).delay := by
  rw [processSample, respond_delay, setDelay_delay_self]

theorem processSample_delay_other {ch ch' : Channel} (h : ch' ≠ ch) (x : Word) (s : State) :
    (processSample ch x s).delay ch' = s.delay ch' := by
  rw [processSample, respond_delay, setDelay_delay_other _ _ _ _ _ h]

theorem processSample_port (ch : Channel) (x : Word) (s : State) : (processSample ch x s).port = s.port := by
  rw [processSample_frame]

/-- R82: a PROC on one channel changes nothing that a PROC on the other reads. -/
theorem process_processSample_other {ch ch' : Channel} (h : ch' ≠ ch) (x y : Word) (s : State) :
    (processSample ch x s).process ch' y = s.process ch' y := by
  cases ch with
  | ch0 =>
    cases ch' with
    | ch0 => exact absurd rfl h
    | ch1 => rfl
  | ch1 =>
    cases ch' with
    | ch0 => rfl
    | ch1 => exact absurd rfl h

/-- R82: the state after a PROC on each channel, as the delay states that each of them leaves from the first one. -/
theorem processSample_processSample {ch ch' : Channel} (h : ch' ≠ ch) (x y : Word) (s : State) :
    processSample ch' y (processSample ch x s) =
      (((s.setDelay ch (s.process ch x).delay (s.process ch x).draws).respond (.w32 (s.process ch x).y)).setDelay ch'
        (s.process ch' y).delay (s.process ch' y).draws).respond (.w32 (s.process ch' y).y) := by
  rw [processSample, process_processSample_other h, processSample]

/-! ## The statements -/

/-- Settles O40: a bypassed section is one none of whose stages runs. -/
theorem chainIsStagesInOrder : Obligations.ChainIsStagesInOrder := chainProcess_eq_foldl

/-- Settles O41: on RP by induction along the chain; on CP PROC raises `Err(PORT)`. -/
theorem frozenStagesKeepDelayState : Obligations.FrozenStagesKeepDelayState := by
  intro s t ch x h
  cases hp : s.port with
  | rp =>
    obtain rfl := proc_of_exec hp h
    refine ⟨fun st hst => ?_, fun ch' hch => processSample_delay_other hch x s⟩
    rw [processSample_delay_self, process_frozen s ch x hst]
  | cp =>
    cases (exec_proc_of_cp hp ch x).symm.trans h
    exact ⟨fun st _ => by rw [raiseErr_delay], fun ch' _ => raiseErr_delay _ _ _ _⟩

/-- Settles O42: each PROC writes its own channel's delay state and counter, which the other does not read. -/
theorem channelsProcessIndependently : Obligations.ChannelsProcessIndependently := by
  intro s t0 t01 t1 t10 x y hrp h0 h01 h1 h10
  obtain rfl := proc_of_exec hrp h0
  obtain rfl := proc_of_exec ((processSample_port _ _ _).trans hrp) h01
  obtain rfl := proc_of_exec hrp h1
  obtain rfl := proc_of_exec ((processSample_port _ _ _).trans hrp) h10
  refine ⟨?_, ?_, ?_⟩
  · rw [processSample_processSample (by decide), processSample_processSample (by decide)]
    generalize s.process .ch0 x = r0
    generalize s.process .ch1 y = r1
    rfl
  · simp only [processSample_responses, List.head?_cons, processSample_port,
      process_processSample_other (show Channel.ch1 ≠ .ch0 by decide)]
  · simp only [processSample_responses, List.head?_cons, processSample_port,
      process_processSample_other (show Channel.ch0 ≠ .ch1 by decide)]

/-- Settles O38. -/
theorem procRunsTheChain : Obligations.ProcRunsTheChain := by
  intro s x hrp
  rw [exec_proc_of_rp hrp, exec_proc_of_rp hrp, ← hrp]
  exact ⟨rfl, rfl⟩

/-- Settles O39: the chain gives back the delay state it was given, and `setDelay_same` writes it again. -/
theorem bypassedChainPassesBits : Obligations.BypassedChainPassesBits := by
  intro s ch x hrp hbyp
  have hproc : s.process ch x = ⟨x, s.delay ch, s.draws ch⟩ := chainProcess_of_bypassed _ _ hbyp _ _ _
  rw [exec_proc_of_rp hrp, processSample, hproc, setDelay_same, ← hrp]
  rfl

/-- Settles O43: a commit touches neither delay state nor the draw counters. -/
theorem swapKeepsDelayState : Obligations.SwapKeepsDelayState := by
  intro s t ch x h
  cases (exec_force s).symm.trans h
  refine ⟨rfl, rfl, ?_⟩
  cases ch <;> rfl

end Sys2Proof.Machine
end

section
/-! PROOFS. The magnitude commands (R84 to R88, R98 to R101): a MAGQ command as a query on CP, the magnitude
functions as products over lists, and what the answers depend on. -/

namespace Sys2Proof.Machine

/-! ## Queries on CP -/

theorem exec_magqDb (ch : Channel) (freq : Word) (s : State) :
    exec (.magqDb ch freq) s = onlyOn .cp .w64 s (s.query freq (chainDb (s.active ch))) := rfl

theorem exec_magqLin (ch : Channel) (freq : Word) (s : State) :
    exec (.magqLin ch freq) s = onlyOn .cp .w64 s (s.query freq (chainMag (s.active ch))) := rfl

theorem exec_magqSec (ch : Channel) (sec : Section) (freq : Word) (s : State) :
    exec (.magqSec ch sec freq) s = onlyOn .cp .w64 s (s.query freq (secMag (s.active ch) sec)) := rfl

/-- R84: at a bad point a query answers the fixed NaN. -/
theorem onlyOn_query_of_none {s : State} {freq : Word} (hcp : s.port = .cp) (h : queryPoint freq s.sr = none)
    (eval : DWord → DWord → Nat → DWord × Nat) :
    onlyOn .cp .w64 s (s.query freq eval) =
      .next { s with responses := (.cp, .w64 0x7FF8000000000000) :: s.responses } := by
  rw [onlyOn_self hcp, ← hcp]
  simp only [State.query, h]
  rfl

/-- R98 to R101: at a good point a query answers its function's value. -/
theorem onlyOn_query_of_some {s : State} {freq : Word} {f fs : DWord} (hcp : s.port = .cp)
    (h : queryPoint freq s.sr = some (f, fs)) (eval : DWord → DWord → Nat → DWord × Nat) :
    onlyOn .cp .w64 s (s.query freq eval) =
      .next { s with
        magDraws := (eval f fs s.magDraws).2
        responses := (.cp, .w64 (eval f fs s.magDraws).1) :: s.responses } := by
  rw [onlyOn_self hcp, ← hcp]
  simp only [State.query, h]
  rfl

/-! ## The magnitude functions (R76, R85 to R87) -/

/-- R76: the product over the active stages in index order. -/
theorem bankMag_eq_foldl (act : Bank Bool) (c : Bank (Coefs Word)) (f fs : DWord) (n : Nat) :
    bankMag act c f fs n = (([0, 1, 2, 3] : List (BitVec 2)).filter act.get).foldl
      (fun m i => mul64 m.1 (stageMag (c.get i) f fs) m.2) (one64, n) := by
  rw [List.foldl_filter]
  rfl

/-- R85. -/
theorem secMag_eq (a : ActiveSet) (sec : Section) (f fs : DWord) (n : Nat) :
    secMag a sec f fs n =
      if a.byp.get sec = true then (one64, n)
      else if sec = .lc then bankMag a.actLc a.coef.lc f fs n
      else if sec = .pk then (stageMag a.coef.pk f fs, n)
      else bankMag a.actHc a.coef.hc f fs n := by
  cases sec <;> rfl

theorem secMag_of_bypassed {a : ActiveSet} {sec : Section} (h : a.byp.get sec = true) (f fs : DWord) (n : Nat) :
    secMag a sec f fs n = (one64, n) :=
  (secMag_eq a sec f fs n).trans (if_pos h)

/-- A section's turn multiplies unless the section is bypassed. -/
theorem chainMagStep_eq (a : ActiveSet) (f fs : DWord) (m : DWord × Nat) (sec : Section) :
    chainMagStep a f fs m sec =
      if (!a.byp.get sec) = true then mul64 m.1 (secMag a sec f fs m.2).1 (secMag a sec f fs m.2).2 else m := by
  unfold chainMagStep
  cases a.byp.get sec <;> rfl

/-- R86: the product over the sections that are not bypassed, in chain order. -/
theorem chainMag_eq_foldl (a : ActiveSet) (f fs : DWord) (n : Nat) :
    chainMag a f fs n = ([Section.lc, .pk, .hc].filter (fun sec => !a.byp.get sec)).foldl
      (fun m sec => mul64 m.1 (secMag a sec f fs m.2).1 (secMag a sec f fs m.2).2) (one64, n) := by
  rw [List.foldl_filter]
  simp only [chainMag, chainMagStep_eq, List.foldl_cons, List.foldl_nil]

theorem bypass_get_of_all {b : Bypass} (h : b = ⟨true, true, true⟩) (sec : Section) : b.get sec = true := by
  subst h
  cases sec <;> rfl

theorem chainMag_of_bypassed {a : ActiveSet} (h : a.byp = ⟨true, true, true⟩) (f fs : DWord) (n : Nat) :
    chainMag a f fs n = (one64, n) := by
  simp [chainMag_eq_foldl, bypass_get_of_all h]

theorem log10Of_one64 : log10Of one64 = 0 := by decide +kernel

theorem mul64_twenty_zero (n : Nat) : mul64 twenty64 0 n = (0, n) := by
  have h : (read64 twenty64).mulExact (read64 0) = .fin false 0 := by decide +kernel
  have hz : finish64 false 0 1074 = 0 := by decide +kernel
  rw [mul64, h, write64, hz]

theorem chainDb_of_bypassed {a : ActiveSet} (h : a.byp = ⟨true, true, true⟩) (f fs : DWord) (n : Nat) :
    chainDb a f fs n = (0, n) := by
  simp only [chainDb, chainMag_of_bypassed h, log10Of_one64, mul64_twenty_zero]

/-! ## What the answers depend on (R88, R122) -/

/-- The MAGQ commands on a channel. -/
def magqCommands (ch : Channel) (sec : Section) (stg : BitVec 2) (freq : Word) : List Instr :=
  [.magqDb ch freq, .magqLin ch freq, .magqSec ch sec freq, .magqStg ch sec stg freq]

/-- A MAGQ command raises `Err(ILL)` in every state, or is a query of one function of the active set. -/
theorem magqCommand_cases {ch : Channel} {sec : Section} {stg : BitVec 2} {freq : Word} {i : Instr}
    (h : i ∈ magqCommands ch sec stg freq) :
    (∀ s, exec i s = .next (raiseErr .ill .w64 s)) ∨
      ∃ eval : ActiveSet → DWord → DWord → Nat → DWord × Nat,
        ∀ s, exec i s = onlyOn .cp .w64 s (s.query freq (eval (s.active ch))) := by
  simp only [magqCommands, List.mem_cons, List.not_mem_nil, or_false] at h
  rcases h with rfl | rfl | rfl | rfl
  · exact .inr ⟨chainDb, exec_magqDb ch freq⟩
  · exact .inr ⟨chainMag, exec_magqLin ch freq⟩
  · exact .inr ⟨fun a => secMag a sec, exec_magqSec ch sec freq⟩
  · cases hst : stageOf sec stg with
    | none => exact .inl (exec_magqStg_of_no_stage hst ch freq)
    | some st =>
      exact .inr ⟨fun a f fs n => (stageMag (a.coef.get st) f fs, n), exec_magqStg_of_stageOf hst ch freq⟩

theorem query_head_congr {s s' : State} (hport : s.port = s'.port) (hsr : s.sr = s'.sr)
    (hdraws : s.magDraws = s'.magDraws) (freq : Word) (eval : DWord → DWord → Nat → DWord × Nat) :
    (s.query freq eval).responses.head? = (s'.query freq eval).responses.head? := by
  unfold State.query
  rw [hsr]
  cases queryPoint freq s'.sr <;> simp [hport, hdraws]

/-- R88: the newest response of a MAGQ command is a function of port, SR, the channel's active set and the draw
counter. -/
theorem magq_head_congr {s s' t t' : State} {ch : Channel} {sec : Section} {stg : BitVec 2} {freq : Word} {i : Instr}
    (hport : s.port = s'.port) (hsr : s.sr = s'.sr) (hactive : s.active ch = s'.active ch)
    (hdraws : s.magDraws = s'.magDraws) (hi : i ∈ magqCommands ch sec stg freq)
    (ht : exec i s = .next t) (ht' : exec i s' = .next t') : t.responses.head? = t'.responses.head? := by
  rcases magqCommand_cases hi with hill | ⟨eval, heval⟩
  · cases (hill s).symm.trans ht
    cases (hill s').symm.trans ht'
    simp [hport]
  · rcases onlyOn_next ((heval s).symm.trans ht) with ⟨hp, rfl⟩ | ⟨hp, rfl⟩
    · cases (onlyOn_self (hport ▸ hp)).symm.trans ((heval s').symm.trans ht')
      rw [hactive]
      exact query_head_congr hport hsr hdraws _ _
    · cases (onlyOn_other (hport ▸ hp)).symm.trans ((heval s').symm.trans ht')
      simp [hport]

/-- R122: what a WRREG can change; SR only at its own index. -/
theorem wrreg_frame {s t : State} {idx : RegIdx} {data : Word} (h : exec (.wrreg idx data) s = .next t) :
    t = { s with
      staging := t.staging
      sr := t.sr
      errPort := t.errPort
      errUnmap := t.errUnmap
      errRo := t.errRo
      responses := t.responses } ∧ (idx ≠ 0x411 → t.sr = s.sr) := by
  rcases onlyOn_next h with ⟨-, rfl⟩ | ⟨-, rfl⟩
  · rcases writeRegister_cases idx data s with ⟨-, hw⟩ | ⟨r, hat, -, hw⟩ | ⟨r, -, -, hw⟩ <;> rw [hw]
    · exact ⟨rfl, fun _ => rfl⟩
    · refine ⟨by rw [regWrite_eq]; rfl, fun hidx => ?_⟩
      cases r with
      | sr => exact absurd (regIndex_of_regAt hat).symm hidx
      | _ => rfl
    · exact ⟨rfl, fun _ => rfl⟩
  · exact ⟨rfl, fun _ => rfl⟩

/-! ## The statements -/

/-- Settles O37: a WRREG touches S, SR, error bits and responses, none of which processing reads. -/
theorem stagedWriteIsInvisible : Obligations.StagedWriteIsInvisible := by
  intro s t idx data h
  obtain ⟨hframe, hsr⟩ := wrreg_frame h
  have hactive (ch : Channel) : t.active ch = s.active ch := by rw [hframe]; cases ch <;> rfl
  refine ⟨fun ch => ⟨hactive ch, ?_⟩, fun ch x => ?_, fun hidx ch sec stg freq u v i hi hu hv => ?_⟩
  · rw [hframe]
    cases ch <;> rfl
  · rw [hframe]
    cases ch <;> rfl
  · exact magq_head_congr (by rw [hframe]) (hsr hidx) (hactive ch) (by rw [hframe]) hi hu hv

/-- Settles O58. -/
theorem magnitudeReadsOnlyTheActiveSet : Obligations.MagnitudeReadsOnlyTheActiveSet :=
  fun _ _ _ _ _ _ _ _ hport hsr hactive hdraws _ hi ht ht' => magq_head_congr hport hsr hactive hdraws hi ht ht'

/-- Settles O52. -/
theorem badQueryReturnsNaN : Obligations.BadQueryReturnsNaN := by
  intro s ch sec stg freq hcp hnone hfits
  obtain ⟨st, hst⟩ := stageOf_of_stageFits hfits
  rw [exec_magqDb, exec_magqLin, exec_magqSec, exec_magqStg_of_stageOf hst]
  exact ⟨onlyOn_query_of_none hcp hnone _, onlyOn_query_of_none hcp hnone _, onlyOn_query_of_none hcp hnone _,
    onlyOn_query_of_none hcp hnone _⟩

/-- Settles O53: each command is a query of its function, and each function a fold over the flags that are set. -/
theorem magnitudeCommandsAnswer : Obligations.MagnitudeCommandsAnswer := by
  refine ⟨fun s ch freq f fs hcp hpt => ?_, bankMag_eq_foldl, secMag_eq, chainMag_eq_foldl, fun _ _ _ _ => rfl⟩
  have hstg {sec : Section} {i : BitVec 2} {st : StageId} (hst : stageOf sec i = some st) :
      exec (.magqStg ch sec i freq) s = .next { s with
        responses := (.cp, .w64 (stageMag ((s.active ch).coef.get st) f fs)) :: s.responses } :=
    (exec_magqStg_of_stageOf hst ch freq s).trans (onlyOn_query_of_some hcp hpt _)
  refine ⟨?db, ?lin, fun sec => ?sec, fun i => ⟨hstg rfl, hstg rfl⟩,
    hstg (i := 0) (st := .pk) rfl⟩
  case db => rw [exec_magqDb, onlyOn_query_of_some hcp hpt]
  case lin => rw [exec_magqLin, onlyOn_query_of_some hcp hpt]
  case sec => rw [exec_magqSec, onlyOn_query_of_some hcp hpt]

/-- Settles O56: no factor is multiplied to the 1.0 the products start from, and its logarithm is +0. -/
theorem bypassedMagnitudeIsOne : Obligations.BypassedMagnitudeIsOne := by
  intro s ch freq f fs hcp hpt hbyp
  refine ⟨?lin, fun sec => ?sec, ?db⟩
  case lin => rw [exec_magqLin, onlyOn_query_of_some hcp hpt, chainMag_of_bypassed hbyp]; rfl
  case sec =>
    rw [exec_magqSec, onlyOn_query_of_some hcp hpt, secMag_of_bypassed (bypass_get_of_all hbyp sec)]
    rfl
  case db => rw [exec_magqDb, onlyOn_query_of_some hcp hpt, chainDb_of_bypassed hbyp]

/-- Settles O57: a query reads its channel only through the active set. -/
theorem channelsGiveTheSameMagnitudes : Obligations.ChannelsGiveTheSameMagnitudes := by
  intro s freq sec stg hagree
  have hactive : s.active .ch0 = s.active .ch1 := hagree
  refine ⟨?_, ?_, ?_, ?_⟩
  · rw [exec_magqDb, exec_magqDb, hactive]
  · rw [exec_magqLin, exec_magqLin, hactive]
  · rw [exec_magqSec, exec_magqSec, hactive]
  · cases hst : stageOf sec stg with
    | none => rw [exec_magqStg_of_no_stage hst, exec_magqStg_of_no_stage hst]
    | some st => rw [exec_magqStg_of_stageOf hst, exec_magqStg_of_stageOf hst, hactive]

end Sys2Proof.Machine
end

section
/-! PROOFS. The filter stage in exact arithmetic (R60): a TDF2 delay state that goes with each DF2 one, and the
delay state as a sum over the two samples before. -/

namespace Sys2Proof.Machine

/-! ## One exact stage -/

theorem stageDf2_exact (c : Coefs ℚ) (d : Delay ℚ) (x : ℚ) (n : Nat) :
    stageDf2 arithExact c d x n =
      ⟨c.b0 * (x - c.a1 * d.d0 - c.a2 * d.d1) + c.b1 * d.d0 + c.b2 * d.d1,
        ⟨x - c.a1 * d.d0 - c.a2 * d.d1, d.d0⟩, n⟩ := rfl

theorem stageTdf2_exact (c : Coefs ℚ) (d : Delay ℚ) (x : ℚ) (n : Nat) :
    stageTdf2 arithExact c d x n =
      ⟨c.b0 * x + d.d0,
        ⟨c.b1 * x - c.a1 * (c.b0 * x + d.d0) + d.d1, c.b2 * x - c.a2 * (c.b0 * x + d.d0)⟩, n⟩ := rfl

theorem stageOutputs_cons {α : Type} (form : StageForm) (ar : Arith α) (c : Coefs α) (d : Delay α) (x : α)
    (xs : List α) (n : Nat) :
    stageOutputs form ar c d (x :: xs) n =
      (stageProcess form ar c d x n).y ::
        stageOutputs form ar c (stageProcess form ar c d x n).delay xs (stageProcess form ar c d x n).draws := rfl

theorem length_stageOutputs {α : Type} (form : StageForm) (ar : Arith α) (c : Coefs α) (d : Delay α) (xs : List α)
    (n : Nat) : (stageOutputs form ar c d xs n).length = xs.length := by
  induction xs generalizing d n with
  | nil => rfl
  | cons x xs ih => rw [stageOutputs_cons, List.length_cons, ih, List.length_cons]

/-! ## Both forms give the same outputs -/

/-- The TDF2 delay state from which a stage answers as it does in DF2 from `d`. -/
def transposed (c : Coefs ℚ) (d : Delay ℚ) : Delay ℚ :=
  ⟨c.b1 * d.d0 + c.b2 * d.d1 - c.b0 * (c.a1 * d.d0 + c.a2 * d.d1),
    c.b2 * d.d0 - c.a2 * c.b0 * d.d0 + c.a1 * c.b2 * d.d1 - c.a2 * c.b1 * d.d1⟩

/-- One sample keeps the two delay states together. -/
theorem stageTdf2_transposed (c : Coefs ℚ) (d : Delay ℚ) (x : ℚ) (n : Nat) :
    stageTdf2 arithExact c (transposed c d) x n =
      ⟨(stageDf2 arithExact c d x n).y, transposed c (stageDf2 arithExact c d x n).delay,
        (stageDf2 arithExact c d x n).draws⟩ := by
  rw [stageTdf2_exact, stageDf2_exact, StageOut.mk.injEq, transposed, transposed, Delay.mk.injEq]
  refine ⟨?_, ⟨?_, ?_⟩, rfl⟩ <;> dsimp only <;> ring

theorem stageOutputs_transposed (c : Coefs ℚ) (d : Delay ℚ) (xs : List ℚ) (n : Nat) :
    stageOutputs .tdf2 arithExact c (transposed c d) xs n = stageOutputs .df2 arithExact c d xs n := by
  induction xs generalizing d n with
  | nil => rfl
  | cons x xs ih =>
    simp only [stageOutputs_cons, stageProcess, stageTdf2_transposed, ih]

theorem transposed_zero (c : Coefs ℚ) : transposed c ⟨0, 0⟩ = ⟨0, 0⟩ := by
  simp [transposed]

theorem exactOutputs_form_eq (c : Coefs ℚ) (xs : List ℚ) : exactOutputs .df2 c xs = exactOutputs .tdf2 c xs := by
  rw [exactOutputs, exactOutputs, ← stageOutputs_transposed, transposed_zero]

/-! ## The difference equation -/

/-- The TDF2 delay state after inputs `x2`, `x1` and outputs `y2`, `y1`, the newer ones numbered 1. -/
def historyDelay (c : Coefs ℚ) (x1 x2 y1 y2 : ℚ) : Delay ℚ :=
  ⟨c.b1 * x1 - c.a1 * y1 + (c.b2 * x2 - c.a2 * y2), c.b2 * x1 - c.a2 * y1⟩

theorem stageTdf2_historyDelay (c : Coefs ℚ) (x1 x2 y1 y2 x : ℚ) (n : Nat) :
    stageTdf2 arithExact c (historyDelay c x1 x2 y1 y2) x n =
      let y := c.b0 * x + c.b1 * x1 + c.b2 * x2 - c.a1 * y1 - c.a2 * y2
      ⟨y, historyDelay c x x1 y y1, n⟩ := by
  have hy : c.b0 * x + (historyDelay c x1 x2 y1 y2).d0 =
      c.b0 * x + c.b1 * x1 + c.b2 * x2 - c.a1 * y1 - c.a2 * y2 := by
    rw [historyDelay]
    ring
  rw [stageTdf2_exact, hy]
  rfl

/-- The difference equation at place `n` of a sequence `xs` that the samples `x2`, `x1` came before. -/
theorem stageOutputs_difference (c : Coefs ℚ) (x1 x2 y1 y2 : ℚ) (xs : List ℚ) (k n : Nat) (hn : n < xs.length) :
    let X := x2 :: x1 :: xs
    let Y := y2 :: y1 :: stageOutputs .tdf2 arithExact c (historyDelay c x1 x2 y1 y2) xs k
    Y.getD (n + 2) 0 =
      c.b0 * X.getD (n + 2) 0 + c.b1 * X.getD (n + 1) 0 + c.b2 * X.getD n 0
        - c.a1 * Y.getD (n + 1) 0 - c.a2 * Y.getD n 0 := by
  induction xs generalizing x1 x2 y1 y2 n with
  | nil => exact absurd hn (Nat.not_lt_zero n)
  | cons x xs ih =>
    simp only [stageOutputs_cons, stageProcess, stageTdf2_historyDelay]
    cases n with
    | zero => rfl
    | succ n => exact ih x x1 _ y1 n (Nat.lt_of_succ_lt_succ hn)

/-- A sequence with two zeros put before it gives the entries `before` speaks of. -/
theorem before_eq_getD (xs : List ℚ) (n k : Nat) (hk : k ≤ 2) :
    before xs n k = (0 :: 0 :: xs : List ℚ).getD (n + 2 - k) 0 := by
  unfold before
  split
  case isTrue hlt =>
    obtain h | h : n + 2 - k = 0 ∨ n + 2 - k = 1 := by omega
    · rw [h]
      rfl
    · rw [h]
      rfl
  case isFalse hle =>
    rw [show n + 2 - k = n - k + 2 by omega]
    rfl

theorem historyDelay_zero (c : Coefs ℚ) : historyDelay c 0 0 0 0 = ⟨0, 0⟩ := by
  simp [historyDelay]

theorem exactOutputs_difference (form : StageForm) (c : Coefs ℚ) (xs : List ℚ) (n : Nat) (hn : n < xs.length) :
    before (exactOutputs form c xs) n 0 =
      c.b0 * before xs n 0 + c.b1 * before xs n 1 + c.b2 * before xs n 2
        - c.a1 * before (exactOutputs form c xs) n 1 - c.a2 * before (exactOutputs form c xs) n 2 := by
  have hform : exactOutputs form c xs = exactOutputs .tdf2 c xs := by
    cases form with
    | df2 => exact exactOutputs_form_eq c xs
    | tdf2 => rfl
  have hdiff := stageOutputs_difference c 0 0 0 0 xs 0 n hn
  rw [historyDelay_zero] at hdiff
  simp only [hform, before_eq_getD _ n 0 (by decide), before_eq_getD _ n 1 (by decide),
    before_eq_getD _ n 2 (by decide)]
  exact hdiff

/-! ## The statements -/

/-- Settles O44: from `transposed c d` TDF2 answers as DF2 does from `d`, and zero state goes with zero state. -/
theorem formsAgreeInExactArithmetic : Obligations.FormsAgreeInExactArithmetic := exactOutputs_form_eq

/-- Settles O45: the delay state of TDF2 is the part of the equation that the samples before contribute. -/
theorem exactOutputsMeetDifferenceEquation : Obligations.ExactOutputsMeetDifferenceEquation :=
  fun form c xs n hn => ⟨length_stageOutputs form arithExact c ⟨0, 0⟩ xs 0, exactOutputs_difference form c xs n hn⟩

end Sys2Proof.Machine
end

section
/-! PROOFS. Rounding (R59): `roundBits` gives the number nearest to the exact result, the even one of two equally
near ones, and gives back what is already a number of the format. -/

namespace Sys2Proof.Machine

/-! ## Rounding to a multiple of a power of two -/

/-- Whether `roundNE` rounds up. -/
theorem roundNE_cases (n k : Nat) :
    (roundNE n k = n / 2 ^ k + 1 ∧ 2 ^ k ≤ 2 * (n % 2 ^ k) ∧ (2 * (n % 2 ^ k) = 2 ^ k → n / 2 ^ k % 2 = 1)) ∨
    (roundNE n k = n / 2 ^ k ∧ 2 * (n % 2 ^ k) ≤ 2 ^ k ∧ (2 * (n % 2 ^ k) = 2 ^ k → n / 2 ^ k % 2 = 0)) := by
  simp only [roundNE]
  split_ifs with h <;> omega

/-- The distance of a multiple of `d` from `n`: the rest of `n` and `j` times `d` when it lies `j` below the
quotient, what the rest lacks to `d` and `j` times `d` when it lies `j` above the next. -/
theorem multiple_dist (n m : Nat) {d : Nat} (hd : 0 < d) :
    (∃ j, m + j = n / d ∧ |(m * d : ℤ) - n| = (n % d + j * d : ℕ)) ∨
    (∃ j, m = n / d + 1 + j ∧ |(m * d : ℤ) - n| = (d - n % d + j * d : ℕ)) := by
  have hn : (d * (n / d : ℕ) + (n % d : ℕ) : ℤ) = n := by exact_mod_cast Nat.div_add_mod n d
  have hlt : n % d ≤ d := (Nat.mod_lt n hd).le
  generalize n / d = q at *
  generalize n % d = r at *
  rcases Nat.lt_or_ge q m with h | h
  · obtain ⟨j, rfl⟩ := Nat.exists_eq_add_of_le h
    refine .inr ⟨j, rfl, ?_⟩
    have hsub : ((q.succ + j : ℕ) * d : ℤ) - n = (d - r + j * d : ℕ) := by
      push_cast [Nat.cast_sub hlt]
      linear_combination hn
    rw [hsub]
    exact abs_of_nonneg (Int.natCast_nonneg _)
  · obtain ⟨j, hj⟩ := Nat.exists_eq_add_of_le h
    refine .inl ⟨j, hj.symm, ?_⟩
    have hsub : (m * d : ℤ) - n = -(r + j * d : ℕ) := by
      rw [hj] at hn
      push_cast at hn ⊢
      linear_combination hn
    rw [hsub, abs_neg]
    exact abs_of_nonneg (Int.natCast_nonneg _)

/-- No multiple, or one multiple of `d` at least. -/
theorem mul_zero_or_le (j d : Nat) : (j = 0 ∧ j * d = 0) ∨ (1 ≤ j ∧ d ≤ j * d) := by
  rcases Nat.eq_zero_or_pos j with rfl | hj
  · exact .inl ⟨rfl, Nat.zero_mul d⟩
  · exact .inr ⟨hj, Nat.le_mul_of_pos_left d hj⟩

/-- `roundNE` gives the nearest multiple, the even one of two equally near ones. -/
theorem roundNE_nearest (n k m : Nat) :
    |(roundNE n k * (2 ^ k : ℕ) : ℤ) - n| ≤ |(m * (2 ^ k : ℕ) : ℤ) - n| ∧
    (|(roundNE n k * (2 ^ k : ℕ) : ℤ) - n| = |(m * (2 ^ k : ℕ) : ℤ) - n| → m ≠ roundNE n k →
      roundNE n k % 2 = 0) := by
  have hd : 0 < 2 ^ k := Nat.two_pow_pos k
  have hlt : n % 2 ^ k < 2 ^ k := Nat.mod_lt n hd
  have hround := roundNE_cases n k
  have hR := multiple_dist n (roundNE n k) hd
  have hm := multiple_dist n m hd
  generalize 2 ^ k = d at *
  rcases hR with ⟨i, hi, hRdist⟩ | ⟨i, hi, hRdist⟩
  all_goals
    rcases hm with ⟨j, hj, hmdist⟩ | ⟨j, hj, hmdist⟩
    all_goals
      rw [hRdist, hmdist]
      have hi' := mul_zero_or_le i d
      have hj' := mul_zero_or_le j d
      generalize i * d = id at *
      generalize j * d = jd at *
      omega

/-- A multiple is rounded to itself. -/
theorem roundNE_mul_two_pow (m k : Nat) : roundNE (m * 2 ^ k) k = m := by
  have hq : m * 2 ^ k / 2 ^ k = m := Nat.mul_div_cancel m (Nat.two_pow_pos k)
  have hr : m * 2 ^ k % 2 ^ k = 0 := Nat.mul_mod_left m (2 ^ k)
  have := Nat.two_pow_pos k
  rcases roundNE_cases (m * 2 ^ k) k with ⟨-, h, -⟩ | ⟨h, -, -⟩
  · omega
  · rw [h, hq]

/-! ## The numbers of a format -/

/-- The number packed from `j` dropped bits and a significand `r`, which may carry into the exponent. -/
theorem unitsOf_packed {fb j r : Nat} (hr : r ≤ 2 * 2 ^ fb) (hj : j = 0 ∨ 2 ^ fb ≤ r) :
    unitsOf fb (j * 2 ^ fb + r) = r * 2 ^ j := by
  have hP := Nat.two_pow_pos fb
  rcases Nat.lt_or_ge r (2 ^ fb) with hlt | hge
  · obtain rfl : j = 0 := by omega
    have hq : (0 * 2 ^ fb + r) / 2 ^ fb = 0 := by
      rw [Nat.zero_mul, Nat.zero_add, Nat.div_eq_of_lt hlt]
    rw [unitsOf, if_pos hq, Nat.zero_mul, Nat.zero_add, Nat.mod_eq_of_lt hlt, Nat.pow_zero, Nat.mul_one]
  · obtain ⟨f, rfl⟩ := Nat.exists_eq_add_of_le hge
    rcases Nat.lt_or_ge f (2 ^ fb) with hf | hf
    · have hq : (j * 2 ^ fb + (2 ^ fb + f)) / 2 ^ fb = j + 1 := by
        rw [← Nat.add_assoc, ← Nat.succ_mul, Nat.mul_comm, Nat.mul_add_div hP, Nat.div_eq_of_lt hf, Nat.add_zero]
      have hm : (j * 2 ^ fb + (2 ^ fb + f)) % 2 ^ fb = f := by
        rw [← Nat.add_assoc, ← Nat.succ_mul, Nat.mul_comm, Nat.mul_add_mod, Nat.mod_eq_of_lt hf]
      rw [unitsOf, hq, hm, if_neg (Nat.succ_ne_zero j), Nat.add_sub_cancel]
    · obtain rfl : f = 2 ^ fb := by omega
      have hpack : j * 2 ^ fb + (2 ^ fb + 2 ^ fb) = 2 ^ fb * (j + 2) := by ring
      have hq : 2 ^ fb * (j + 2) / 2 ^ fb = j + 2 := Nat.mul_div_cancel_left _ hP
      rw [unitsOf, hpack, hq, Nat.mul_mod_right, if_neg (by omega), show j + 2 - 1 = j + 1 by omega]
      ring

/-- A number of the format is a multiple of the `k`-th power of two, or lies below those with `fb + 1`
significant bits at that place. -/
theorem unitsOf_multiple_or_small (fb b : Nat) {x k : Nat} (hxk : x ≤ k) :
    (∃ m, unitsOf fb b * 2 ^ x = m * 2 ^ k) ∨ (x < k ∧ unitsOf fb b * 2 ^ x < 2 ^ fb * 2 ^ k) := by
  have hf : b % 2 ^ fb < 2 ^ fb := Nat.mod_lt b (Nat.two_pow_pos fb)
  unfold unitsOf
  split
  case isTrue =>
    rcases hxk.eq_or_lt with rfl | hlt
    · exact .inl ⟨_, rfl⟩
    · exact .inr ⟨hlt, Nat.mul_lt_mul_of_lt_of_le hf (Nat.pow_le_pow_right (by decide) hxk) (Nat.two_pow_pos k)⟩
  case isFalse =>
    rw [Nat.mul_assoc, ← Nat.pow_add]
    have hxp : x ≤ b / 2 ^ fb - 1 + x := Nat.le_add_left _ _
    generalize b / 2 ^ fb - 1 + x = p at *
    rcases Nat.lt_or_ge p k with hp | hp
    · refine .inr ⟨hxp.trans_lt hp, ?_⟩
      calc (2 ^ fb + b % 2 ^ fb) * 2 ^ p < (2 ^ fb * 2) * 2 ^ p :=
            Nat.mul_lt_mul_of_pos_right (by omega) (Nat.two_pow_pos p)
        _ = 2 ^ fb * 2 ^ (p + 1) := by ring
        _ ≤ 2 ^ fb * 2 ^ k := Nat.mul_le_mul_left _ (Nat.pow_le_pow_right (by decide) hp)
    · obtain ⟨j, rfl⟩ := Nat.exists_eq_add_of_le hp
      exact .inl ⟨(2 ^ fb + b % 2 ^ fb) * 2 ^ j, by rw [Nat.pow_add]; ring⟩

/-! ## `roundBits` -/

/-- The place of the lowest bit `roundBits` keeps. -/
def roundPlace (fb n x : Nat) : Nat := max x (Nat.log2 n - fb)

theorem roundBits_eq (fb n x : Nat) :
    roundBits fb n x = (roundPlace fb n x - x) * 2 ^ fb + roundNE n (roundPlace fb n x) := rfl

theorem le_roundPlace (fb n x : Nat) : x ≤ roundPlace fb n x := Nat.le_max_left _ _

/-- `n` has at most `fb + 1` bits above the place. -/
theorem lt_of_roundPlace (fb n x : Nat) : n < 2 * 2 ^ fb * 2 ^ roundPlace fb n x := by
  calc n < 2 ^ (Nat.log2 n + 1) := Nat.lt_log2_self
    _ ≤ 2 ^ (1 + fb + roundPlace fb n x) := Nat.pow_le_pow_right (by decide) (by unfold roundPlace; omega)
    _ = 2 * 2 ^ fb * 2 ^ roundPlace fb n x := by rw [Nat.pow_add, Nat.pow_add, Nat.pow_one]

/-- `n` has `fb + 1` bits above the place when bits beyond `x` are dropped. -/
theorem le_of_lt_roundPlace {fb n x : Nat} (h : x < roundPlace fb n x) : 2 ^ fb * 2 ^ roundPlace fb n x ≤ n := by
  have hplace : fb + roundPlace fb n x = Nat.log2 n := by unfold roundPlace at h ⊢; omega
  have hn : n ≠ 0 := by
    rintro rfl
    rw [Nat.log2_zero] at hplace
    omega
  rw [← Nat.pow_add, hplace]
  exact Nat.log2_self_le hn

theorem roundNE_le_of_lt {n k m : Nat} (h : n < m * 2 ^ k) : roundNE n k ≤ m := by
  have hq : n / 2 ^ k < m := Nat.div_lt_of_lt_mul (by rwa [Nat.mul_comm])
  rcases roundNE_cases n k with ⟨hR, -⟩ | ⟨hR, -⟩ <;> omega

theorem le_roundNE_of_le {n k m : Nat} (h : m * 2 ^ k ≤ n) : m ≤ roundNE n k := by
  have hq : m ≤ n / 2 ^ k := (Nat.le_div_iff_mul_le (Nat.two_pow_pos k)).mpr h
  rcases roundNE_cases n k with ⟨hR, -⟩ | ⟨hR, -⟩ <;> omega

/-- The number `roundBits` packs is the multiple `roundNE` gives. -/
theorem unitsOf_roundBits (fb n x : Nat) :
    unitsOf fb (roundBits fb n x) * 2 ^ x = roundNE n (roundPlace fb n x) * 2 ^ roundPlace fb n x := by
  have hle := le_roundPlace fb n x
  rw [roundBits_eq, unitsOf_packed (roundNE_le_of_lt (lt_of_roundPlace fb n x)), Nat.mul_assoc, ← Nat.pow_add,
    Nat.sub_add_cancel hle]
  rcases hle.eq_or_lt with h | h
  · exact .inl (by omega)
  · exact .inr (le_roundNE_of_le (le_of_lt_roundPlace h))

theorem roundPlace_le {fb n x j : Nat} (hx : x ≤ j) (hn : n < 2 * 2 ^ fb * 2 ^ j) : roundPlace fb n x ≤ j := by
  refine Nat.max_le.mpr ⟨hx, ?_⟩
  rcases Nat.eq_zero_or_pos n with rfl | hpos
  · rw [Nat.log2_zero]
    omega
  · have hlog : Nat.log2 n < 1 + fb + j := by
      rw [Nat.log2_lt hpos.ne', Nat.pow_add, Nat.pow_add, Nat.pow_one]
      exact hn
    omega

theorem le_roundPlace_of_le {fb n x j : Nat} (hn : 2 ^ fb * 2 ^ j ≤ n) : j ≤ roundPlace fb n x := by
  have hpos : n ≠ 0 := fun h => absurd (h ▸ hn) (by simp)
  have hlog : fb + j ≤ Nat.log2 n := by
    rw [Nat.le_log2 hpos, Nat.pow_add]
    exact hn
  unfold roundPlace
  omega

/-- A number with at most `fb + 1` significant bits is packed exactly. -/
theorem unitsOf_roundBits_exact {fb m : Nat} (hm : m < 2 * 2 ^ fb) (j : Nat) :
    unitsOf fb (roundBits fb (m * 2 ^ j) 0) = m * 2 ^ j := by
  have hplace : roundPlace fb (m * 2 ^ j) 0 ≤ j :=
    roundPlace_le (Nat.zero_le j) (Nat.mul_lt_mul_of_pos_right hm (Nat.two_pow_pos j))
  have hround := unitsOf_roundBits fb (m * 2 ^ j) 0
  generalize roundPlace fb (m * 2 ^ j) 0 = k at *
  obtain ⟨i, rfl⟩ := Nat.exists_eq_add_of_le' hplace
  rw [Nat.pow_zero, Nat.mul_one] at hround
  rw [hround, Nat.pow_add, ← Nat.mul_assoc, roundNE_mul_two_pow]

/-- A significand of `fb + 1` bits, or of fewer at the lowest place, is packed as it is. -/
theorem roundBits_significand {fb r k x : Nat} (hx : x ≤ k) (hr : r < 2 * 2 ^ fb) (hk : k = x ∨ 2 ^ fb ≤ r) :
    roundBits fb (r * 2 ^ k) x = (k - x) * 2 ^ fb + r := by
  have hplace : roundPlace fb (r * 2 ^ k) x = k := by
    refine Nat.le_antisymm (roundPlace_le hx (Nat.mul_lt_mul_of_pos_right hr (Nat.two_pow_pos k))) ?_
    rcases hk with rfl | hP
    · exact le_roundPlace _ _ _
    · exact le_roundPlace_of_le (Nat.mul_le_mul_right _ hP)
  rw [roundBits_eq, hplace, roundNE_mul_two_pow]

/-- What is a number of the format already, `roundBits` gives back. -/
theorem roundBits_unitsOf (fb b x : Nat) : roundBits fb (unitsOf fb b * 2 ^ x) x = b := by
  have hf : b % 2 ^ fb < 2 ^ fb := Nat.mod_lt b (Nat.two_pow_pos fb)
  have hb : b / 2 ^ fb * 2 ^ fb + b % 2 ^ fb = b := Nat.div_add_mod' b (2 ^ fb)
  unfold unitsOf
  split
  case isTrue he =>
    rw [roundBits_significand (Nat.le_refl x) (by omega) (.inl rfl), Nat.sub_self, ← he, hb]
  case isFalse he =>
    obtain ⟨e, he'⟩ := Nat.exists_eq_succ_of_ne_zero he
    rw [Nat.mul_assoc, ← Nat.pow_add, roundBits_significand (Nat.le_add_left _ _) (by omega) (.inr (by omega)),
      Nat.add_sub_cancel]
    rw [he', Nat.succ_mul] at hb
    rw [he', Nat.succ_sub_one]
    omega

/-- R59: no number of the format is nearer to the exact result, and of two equally near ones the even one is taken. -/
theorem roundBits_nearest {fb : Nat} (hfb : 1 ≤ fb) (n x b : Nat) :
    |(unitsOf fb (roundBits fb n x) * 2 ^ x : ℤ) - n| ≤ |(unitsOf fb b * 2 ^ x : ℤ) - n| ∧
    (|(unitsOf fb (roundBits fb n x) * 2 ^ x : ℤ) - n| = |(unitsOf fb b * 2 ^ x : ℤ) - n| →
      unitsOf fb b ≠ unitsOf fb (roundBits fb n x) → roundBits fb n x % 2 = 0) := by
  set k := roundPlace fb n x with hk
  have hle : x ≤ k := le_roundPlace fb n x
  have hV : (unitsOf fb (roundBits fb n x) * 2 ^ x : ℤ) = roundNE n k * (2 ^ k : ℕ) := by
    exact_mod_cast unitsOf_roundBits fb n x
  have hparity : roundBits fb n x % 2 = roundNE n k % 2 := by
    obtain ⟨g, rfl⟩ := Nat.exists_eq_add_of_le hfb
    rw [roundBits_eq, Nat.pow_add, Nat.pow_one, Nat.mul_left_comm, Nat.mul_add_mod]
  rw [hV, hparity]
  rcases unitsOf_multiple_or_small fb b hle with ⟨m, hm⟩ | ⟨hlt, hsmall⟩
  · have hU : (unitsOf fb b * 2 ^ x : ℤ) = m * (2 ^ k : ℕ) := by exact_mod_cast hm
    rw [hU]
    obtain ⟨hnear, htie⟩ := roundNE_nearest n k m
    refine ⟨hnear, fun heq hne => htie heq ?_⟩
    rintro rfl
    exact hne (Nat.eq_of_mul_eq_mul_right (Nat.two_pow_pos x) (hm.trans (unitsOf_roundBits fb n x).symm))
  · have hP : (2 ^ fb * 2 ^ k : ℕ) ≤ n := le_of_lt_roundPlace (hk ▸ hlt)
    obtain ⟨hnear, -⟩ := roundNE_nearest n k (2 ^ fb)
    have hfar : |((2 ^ fb : ℕ) * (2 ^ k : ℕ) : ℤ) - n| < |(unitsOf fb b * 2 ^ x : ℤ) - n| := by
      have hP' : ((2 ^ fb : ℕ) * (2 ^ k : ℕ) : ℤ) ≤ n := by exact_mod_cast hP
      have hU : (unitsOf fb b * 2 ^ x : ℤ) < (2 ^ fb : ℕ) * (2 ^ k : ℕ) := by exact_mod_cast hsmall
      rw [abs_of_nonpos (sub_nonpos.mpr hP'), abs_of_nonpos (by linarith)]
      linarith
    exact ⟨(hnear.trans_lt hfar).le, fun heq => absurd heq (hnear.trans_lt hfar).ne⟩

end Sys2Proof.Machine
end

section
/-! PROOFS. The operations of R8 and R59 on bit patterns: how a pattern is read and written, the exact sum and
product, the rounded result of each operation, and multiplication by 1.0. -/

namespace Sys2Proof.Machine

/-! ## Patterns from a sign and the bits below it -/

theorem toNat_pattern32 (neg : Bool) {bits : Nat} (h : bits < 2 ^ 31) :
    (pattern32 neg bits).toNat = bits + if neg then 2 ^ 31 else 0 := by
  rw [pattern32, BitVec.toNat_ofNat]
  apply Nat.mod_eq_of_lt
  split <;> omega

theorem msb_pattern32 (neg : Bool) {bits : Nat} (h : bits < 2 ^ 31) : (pattern32 neg bits).msb = neg := by
  rw [BitVec.msb_eq_decide, toNat_pattern32 neg h]
  cases neg with
  | false => exact decide_eq_false (by simp; omega)
  | true => exact decide_eq_true (by simp)

theorem absBits32_pattern32 (neg : Bool) {bits : Nat} (h : bits < 2 ^ 31) :
    absBits32 (pattern32 neg bits) = bits := by
  rw [absBits32, toNat_pattern32 neg h]
  split <;> omega

theorem absBits32_lt (w : Word) : absBits32 w < 2 ^ 31 := Nat.mod_lt _ (by decide)

/-- A pattern is its sign and the bits below it. -/
theorem pattern32_absBits32 (w : Word) : pattern32 w.msb (absBits32 w) = w := by
  apply BitVec.eq_of_toNat_eq
  rw [toNat_pattern32 _ (absBits32_lt w), BitVec.msb_eq_decide, absBits32]
  have := w.isLt
  simp only [decide_eq_true_eq]
  split <;> omega

theorem toNat_pattern64 (neg : Bool) {bits : Nat} (h : bits < 2 ^ 63) :
    (pattern64 neg bits).toNat = bits + if neg then 2 ^ 63 else 0 := by
  rw [pattern64, BitVec.toNat_ofNat]
  apply Nat.mod_eq_of_lt
  split <;> omega

theorem msb_pattern64 (neg : Bool) {bits : Nat} (h : bits < 2 ^ 63) : (pattern64 neg bits).msb = neg := by
  rw [BitVec.msb_eq_decide, toNat_pattern64 neg h]
  cases neg with
  | false => exact decide_eq_false (by simp; omega)
  | true => exact decide_eq_true (by simp)

theorem absBits64_pattern64 (neg : Bool) {bits : Nat} (h : bits < 2 ^ 63) :
    absBits64 (pattern64 neg bits) = bits := by
  rw [absBits64, toNat_pattern64 neg h]
  split <;> omega

theorem absBits64_lt (w : DWord) : absBits64 w < 2 ^ 63 := Nat.mod_lt _ (by decide)

theorem pattern64_absBits64 (w : DWord) : pattern64 w.msb (absBits64 w) = w := by
  apply BitVec.eq_of_toNat_eq
  rw [toNat_pattern64 _ (absBits64_lt w), BitVec.msb_eq_decide, absBits64]
  have := w.isLt
  simp only [decide_eq_true_eq]
  split <;> omega

/-! ## Reading a pattern -/

theorem read32_of_nan (mode : DenormMode) {w : Word} (h : isNaN32 w = true) : read32 mode w = .nan :=
  if_pos (of_decide_eq_true h)

theorem read32_of_inf (mode : DenormMode) {w : Word} (h : absBits32 w = 0x7F800000) :
    read32 mode w = .inf w.msb := by
  rw [read32, if_neg (by omega), if_pos h]

theorem read32_of_finite (mode : DenormMode) {w : Word} (h : isFinite32 w = true) :
    read32 mode w = .fin w.msb (mag32 mode w) := by
  have hlt : absBits32 w < 0x7F800000 := of_decide_eq_true h
  rw [read32, if_neg (by omega), if_neg (by omega)]

/-- A pattern is a NaN, an infinity or finite. -/
theorem class32_cases (w : Word) : isNaN32 w = true ∨ absBits32 w = 0x7F800000 ∨ isFinite32 w = true := by
  rw [isNaN32, isFinite32, decide_eq_true_iff, decide_eq_true_iff]
  omega

theorem read64_of_nan {w : DWord} (h : isNaN64 w = true) : read64 w = .nan :=
  if_pos (of_decide_eq_true h)

theorem read64_of_inf {w : DWord} (h : absBits64 w = 0x7FF0000000000000) : read64 w = .inf w.msb := by
  rw [read64, if_neg (by omega), if_pos h]

theorem read64_of_finite {w : DWord} (h : isFinite64 w = true) : read64 w = .fin w.msb (mag64 w) := by
  have hlt : absBits64 w < 0x7FF0000000000000 := of_decide_eq_true h
  rw [read64, if_neg (by omega), if_neg (by omega)]

theorem class64_cases (w : DWord) :
    isNaN64 w = true ∨ absBits64 w = 0x7FF0000000000000 ∨ isFinite64 w = true := by
  rw [isNaN64, isFinite64, decide_eq_true_iff, decide_eq_true_iff]
  omega

/-- A magnitude is the number of its bits, unless FTZ_DAZ reads a subnormal as zero. -/
theorem mag32_eq (mode : DenormMode) (w : Word) :
    mag32 mode w = if mode = .ftzDaz ∧ absBits32 w < 2 ^ 23 then 0 else unitsOf 23 (absBits32 w) := by
  have hzero : absBits32 w / 2 ^ 23 = 0 ↔ absBits32 w < 2 ^ 23 := Nat.div_eq_zero_iff_lt (by decide)
  by_cases he : absBits32 w / 2 ^ 23 = 0
  · cases mode <;> simp only [mag32, unitsOf, he, hzero.mp he, if_true, and_true, reduceCtorEq, if_false]
  · cases mode <;> simp only [mag32, unitsOf, he, mt hzero.mpr he, if_false, and_false]

theorem mag32_ieee (w : Word) : mag32 .ieee w = unitsOf 23 (absBits32 w) := by
  rw [mag32_eq, if_neg]
  rintro ⟨h, -⟩
  cases h

/-- A pattern that DENORM_MODE leaves alone is read as the number of its bits. -/
theorem mag32_of_leftAlone {mode : DenormMode} {w : Word} (h : leftAlone mode w = true) :
    mag32 mode w = unitsOf 23 (absBits32 w) := by
  cases mode with
  | ieee => exact mag32_ieee w
  | ftzDaz =>
    rw [mag32_eq]
    split
    case isFalse => rfl
    case isTrue hsub =>
      obtain ⟨-, hlt⟩ := hsub
      rcases Bool.or_eq_true_iff.mp h with hz | hge
      · rw [eq_of_beq hz]
        rfl
      · exact absurd hlt (not_lt.mpr (of_decide_eq_true hge))

theorem mag64_eq (w : DWord) : mag64 w = unitsOf 52 (absBits64 w) := rfl

theorem signed_zero (neg : Bool) : signed neg 0 = 0 := by
  cases neg <;> rfl

theorem natAbs_signed (neg : Bool) (n : Nat) : (signed neg n).natAbs = n := by
  cases neg <;> simp [signed]

theorem value32_eq (mode : DenormMode) (w : Word) : value32 mode w = signed w.msb (mag32 mode w) := by
  rw [value32, mag32_eq]
  split
  · rw [signed_zero]
  · rfl

theorem value64_eq (w : DWord) : value64 w = signed w.msb (mag64 w) := rfl

/-! ## Exact sums and products -/

theorem signed_not (neg : Bool) (n : Nat) : signed (!neg) n = -signed neg n := by
  cases neg <;> simp [signed]

theorem signed_add (s : Bool) (n m : Nat) : signed s n + signed s m = signed s (n + m) := by
  cases s
  · simp [signed]
  · simp [signed, add_comm]

theorem signed_sub (s : Bool) {n m : Nat} (h : m ≤ n) : signed s n - signed s m = signed s (n - m) := by
  cases s
  · simp [signed, Nat.cast_sub h]
  · simp [signed, Nat.cast_sub h, Int.add_comm, Int.sub_eq_add_neg]

theorem signed_eq_zero_iff (s : Bool) (n : Nat) : signed s n = 0 ↔ n = 0 := by
  cases s <;> simp [signed]

/-- The sign of a value is read off it unless the magnitude is zero. -/
theorem sign_of_signed {s b : Bool} {n : Nat} (hb : n = 0 → b = s) :
    (if signed s n = 0 then b else decide (signed s n < 0)) = s := by
  split
  case isTrue h => exact hb ((signed_eq_zero_iff s n).mp h)
  case isFalse h =>
    rw [signed_eq_zero_iff] at h
    cases s with
    | false => exact decide_eq_false (by simp [signed])
    | true => exact decide_eq_true (by simp [signed, Nat.pos_of_ne_zero h])

/-- The exact sum of two finite data is the sum of their values; an exact zero is −0 only from two −0. -/
theorem addExact_fin (s t : Bool) (n m : Nat) :
    (Fp.fin s n).addExact (.fin t m) =
      .fin (if signed s n + signed t m = 0 then s && t else decide (signed s n + signed t m < 0))
        (signed s n + signed t m).natAbs := by
  by_cases hst : s = t
  · subst hst
    rw [signed_add, natAbs_signed, Bool.and_self, sign_of_signed fun _ => rfl, Fp.addExact, if_pos rfl]
  · obtain rfl : t = !s := Bool.eq_not_of_ne (Ne.symm hst)
    rw [Fp.addExact, if_neg hst, signed_not, ← Int.sub_eq_add_neg, Bool.and_not_self]
    rcases Nat.lt_trichotomy m n with h | rfl | h
    · rw [if_pos h, signed_sub s h.le, natAbs_signed, sign_of_signed fun h0 => absurd h0 (by omega)]
    · rw [if_neg (lt_irrefl m), if_neg (lt_irrefl m), Int.sub_self]
      rfl
    · rw [if_neg h.not_gt, if_pos h, ← Int.neg_sub, signed_sub s h.le, ← signed_not, natAbs_signed,
        sign_of_signed fun h0 => absurd h0 (by omega)]

theorem mulExact_fin (s t : Bool) (n m : Nat) :
    (Fp.fin s n).mulExact (.fin t m) = .fin (s ^^ t) (signed s n * signed t m).natAbs := by
  rw [Int.natAbs_mul, natAbs_signed, natAbs_signed, Fp.mulExact]

/-! ## The rounded result of an operation -/

/-- Bits 30:0 of the rounded result: the overflow of R59, and its flush under FTZ_DAZ. -/
def resultBits32 (mode : DenormMode) (n x : Nat) : Nat :=
  if 0x7F800000 ≤ roundBits 23 n x then 0x7F800000
  else if mode = .ftzDaz ∧ roundBits 23 n x < 2 ^ 23 then 0
  else roundBits 23 n x

theorem resultBits32_le (mode : DenormMode) (n x : Nat) : resultBits32 mode n x ≤ 0x7F800000 := by
  unfold resultBits32
  split_ifs <;> omega

theorem finish32_eq (mode : DenormMode) (neg : Bool) (n x : Nat) :
    finish32 mode neg n x = pattern32 neg (resultBits32 mode n x) := by
  unfold finish32 resultBits32
  by_cases hover : 0x7F800000 ≤ roundBits 23 n x
  · rw [Nat.min_eq_right hover, if_pos hover]
    cases mode <;> rfl
  · rw [Nat.min_eq_left (by omega), if_neg hover]
    cases mode <;> simp

theorem finish32_isResult (mode : DenormMode) (neg : Bool) (n x : Nat) :
    isResult32 mode neg n x (finish32 mode neg n x) := by
  have hlt : resultBits32 mode n x < 2 ^ 31 := (resultBits32_le mode n x).trans_lt (by decide)
  rw [finish32_eq]
  exact ⟨msb_pattern32 neg hlt, absBits32_pattern32 neg hlt⟩

theorem finish64_isResult (neg : Bool) (n x : Nat) : isResult64 neg n x (finish64 neg n x) := by
  have hlt : min (roundBits 52 n x) 0x7FF0000000000000 < 2 ^ 63 := by omega
  refine ⟨msb_pattern64 neg hlt, (absBits64_pattern64 neg hlt).trans ?_⟩
  split <;> omega

theorem add32_isResult (mode : DenormMode) (ch : Channel) {a b : Word} (k : Nat) (ha : isFinite32 a = true)
    (hb : isFinite32 b = true) :
    let z := value32 mode a + value32 mode b
    isResult32 mode (if z = 0 then a.msb && b.msb else decide (z < 0)) z.natAbs 0 (add32 mode ch a b k).1 ∧
      (add32 mode ch a b k).2 = k := by
  simp only [add32, read32_of_finite mode ha, read32_of_finite mode hb, addExact_fin, value32_eq]
  exact ⟨finish32_isResult _ _ _ _, rfl⟩

theorem sub32_isResult (mode : DenormMode) (ch : Channel) {a b : Word} (k : Nat) (ha : isFinite32 a = true)
    (hb : isFinite32 b = true) :
    let z := value32 mode a - value32 mode b
    isResult32 mode (if z = 0 then a.msb && !b.msb else decide (z < 0)) z.natAbs 0 (sub32 mode ch a b k).1 ∧
      (sub32 mode ch a b k).2 = k := by
  simp only [sub32, read32_of_finite mode ha, read32_of_finite mode hb, Fp.negate, addExact_fin, value32_eq,
    signed_not, ← Int.sub_eq_add_neg]
  exact ⟨finish32_isResult _ _ _ _, rfl⟩

theorem mul32_isResult (mode : DenormMode) (ch : Channel) {a b : Word} (k : Nat) (ha : isFinite32 a = true)
    (hb : isFinite32 b = true) :
    isResult32 mode (a.msb ^^ b.msb) (value32 mode a * value32 mode b).natAbs 149 (mul32 mode ch a b k).1 ∧
      (mul32 mode ch a b k).2 = k := by
  simp only [mul32, read32_of_finite mode ha, read32_of_finite mode hb, mulExact_fin, value32_eq]
  exact ⟨finish32_isResult _ _ _ _, rfl⟩

theorem mul64_isResult {a b : DWord} (k : Nat) (ha : isFinite64 a = true) (hb : isFinite64 b = true) :
    isResult64 (a.msb ^^ b.msb) (value64 a * value64 b).natAbs 1074 (mul64 a b k).1 ∧ (mul64 a b k).2 = k := by
  simp only [mul64, read64_of_finite ha, read64_of_finite hb, mulExact_fin, value64_eq]
  exact ⟨finish64_isResult _ _ _, rfl⟩

/-! ## Results that are exact -/

/-- A pattern that DENORM_MODE leaves alone is the rounding of its own number. -/
theorem finish32_mag32 {mode : DenormMode} {w : Word} (hfin : isFinite32 w = true) (h : leftAlone mode w = true)
    (x : Nat) : finish32 mode w.msb (mag32 mode w * 2 ^ x) x = w := by
  have hlt : absBits32 w < 0x7F800000 := of_decide_eq_true hfin
  have hbits : resultBits32 mode (mag32 mode w * 2 ^ x) x = absBits32 w := by
    rw [resultBits32, mag32_of_leftAlone h, roundBits_unitsOf, if_neg (not_le.mpr hlt)]
    split
    case isFalse => rfl
    case isTrue hsub =>
      obtain ⟨rfl, hsmall⟩ := hsub
      rcases Bool.or_eq_true_iff.mp h with hz | hge
      · exact (eq_of_beq hz).symm
      · exact absurd hsmall (not_lt.mpr (of_decide_eq_true hge))
  rw [finish32_eq, hbits, pattern32_absBits32]

theorem finish64_mag64 {w : DWord} (hfin : isFinite64 w = true) (x : Nat) :
    finish64 w.msb (mag64 w * 2 ^ x) x = w := by
  have hlt : absBits64 w < 0x7FF0000000000000 := of_decide_eq_true hfin
  rw [finish64, mag64_eq, roundBits_unitsOf, Nat.min_eq_left hlt.le, pattern64_absBits64]

/-- 1.0 is 2^149 units of binary32. -/
theorem read32_one (mode : DenormMode) : read32 mode 0x3F800000 = .fin false (2 ^ 149) := by
  cases mode <;> decide +kernel

/-- 1.0 is 2^1074 units of binary64. -/
theorem read64_one : read64 one64 = .fin false (2 ^ 1074) := by
  decide +kernel

theorem mul32_one_of_inf (mode : DenormMode) (ch : Channel) {w : Word} (h : absBits32 w = 0x7F800000) (n : Nat) :
    mul32 mode ch 0x3F800000 w n = (w, n) := by
  have hne : (2 : Nat) ^ 149 ≠ 0 := pow_ne_zero 149 two_ne_zero
  rw [mul32, read32_one, read32_of_inf mode h, Fp.mulExact, if_neg hne, Bool.false_xor, write32, ← h,
    pattern32_absBits32]

theorem mul32_one_of_finite {mode : DenormMode} {w : Word} (hfin : isFinite32 w = true)
    (h : leftAlone mode w = true) (ch : Channel) (n : Nat) : mul32 mode ch 0x3F800000 w n = (w, n) := by
  rw [mul32, read32_one, read32_of_finite mode hfin, Fp.mulExact, Bool.false_xor, write32, Nat.mul_comm,
    finish32_mag32 hfin h]

theorem mul64_one_of_inf {w : DWord} (h : absBits64 w = 0x7FF0000000000000) (n : Nat) :
    mul64 one64 w n = (w, n) := by
  have hne : (2 : Nat) ^ 1074 ≠ 0 := pow_ne_zero 1074 two_ne_zero
  rw [mul64, read64_one, read64_of_inf h, Fp.mulExact, if_neg hne, Bool.false_xor, write64, ← h,
    pattern64_absBits64]

theorem mul64_one_of_finite {w : DWord} (hfin : isFinite64 w = true) (n : Nat) : mul64 one64 w n = (w, n) := by
  rw [mul64, read64_one, read64_of_finite hfin, Fp.mulExact, Bool.false_xor, write64, Nat.mul_comm,
    finish64_mag64 hfin]

/-! ## Widening (R84) -/

/-- A finite binary32 magnitude is a significand of at most 24 bits times a power of two below 2^254. -/
theorem mag32_significand {w : Word} (h : isFinite32 w = true) :
    ∃ m j, m < 2 ^ 24 ∧ j < 254 ∧ mag32 .ieee w = m * 2 ^ j := by
  have hlt : absBits32 w < 0x7F800000 := of_decide_eq_true h
  rw [mag32_ieee, unitsOf]
  split
  · exact ⟨_, 0, by omega, by decide, (Nat.mul_one _).symm⟩
  · exact ⟨_, _, by omega, by omega, rfl⟩

/-- A binary64 number below 2^1180 units with at most 53 significant bits does not overflow. -/
theorem roundBits_widened {m j : Nat} (hm : m < 2 ^ 24) (hj : j < 254) :
    roundBits 52 (m * 2 ^ (j + 925)) 0 < 0x7FF0000000000000 := by
  have hN : m * 2 ^ (j + 925) < 2 * 2 ^ 52 * 2 ^ (j + 925) :=
    Nat.mul_lt_mul_of_pos_right (by omega) (Nat.two_pow_pos _)
  have hplace : roundPlace 52 (m * 2 ^ (j + 925)) 0 ≤ j + 925 := roundPlace_le (Nat.zero_le _) hN
  have hround : roundNE (m * 2 ^ (j + 925)) (roundPlace 52 (m * 2 ^ (j + 925)) 0) ≤ 2 * 2 ^ 52 :=
    roundNE_le_of_lt (lt_of_roundPlace 52 _ 0)
  rw [roundBits_eq]
  omega

/-- A binary32 magnitude keeps its value in binary64. -/
theorem read64_widenFin {w : Word} (h : isFinite32 w = true) (neg : Bool) :
    read64 (widenFin neg (mag32 .ieee w)) = .fin neg (mag32 .ieee w * 2 ^ 925) := by
  obtain ⟨m, j, hm, hj, hmag⟩ := mag32_significand h
  have hN : mag32 .ieee w * 2 ^ 925 = m * 2 ^ (j + 925) := by rw [hmag, Nat.mul_assoc, ← Nat.pow_add]
  have hrb := roundBits_widened hm hj
  have hlt : roundBits 52 (m * 2 ^ (j + 925)) 0 < 2 ^ 63 := by omega
  have hval : unitsOf 52 (roundBits 52 (m * 2 ^ (j + 925)) 0) = m * 2 ^ (j + 925) :=
    unitsOf_roundBits_exact (by omega) _
  rw [widenFin, finish64, hN, Nat.min_eq_left hrb.le, read64_of_finite, msb_pattern64 neg hlt, mag64_eq,
    absBits64_pattern64 neg hlt, hval]
  rw [isFinite64, absBits64_pattern64 neg hlt]
  exact decide_eq_true hrb

/-! ## Magnitudes and logarithms on patterns (R68, R84, R87) -/

theorem isZero32_iff (w : Word) : isZero32 w = true ↔ mag32 .ieee w = 0 := by
  rw [mag32_ieee]
  constructor
  · intro hz
    rw [eq_of_beq hz]
    rfl
  · intro hu
    have hb := roundBits_unitsOf 23 (absBits32 w) 0
    rw [hu] at hb
    exact beq_iff_eq.mpr (hb.symm.trans (by decide))

/-- R84: the point of a good query, both operands widened. -/
theorem queryPoint_of_good {freq sr : Word} (hf : isFinite32 freq = true) (hs : isFinite32 sr = true)
    (hpos : sr.msb = false) (hz : isZero32 sr = false) :
    queryPoint freq sr = some (widenFin freq.msb (mag32 .ieee freq), widenFin false (mag32 .ieee sr)) := by
  have hmag : mag32 .ieee sr ≠ 0 := fun h => by cases hz.symm.trans ((isZero32_iff sr).mpr h)
  obtain ⟨m, hm⟩ := Nat.exists_eq_succ_of_ne_zero hmag
  simp only [queryPoint, read32_of_finite _ hf, read32_of_finite _ hs, hpos, hm]

/-- A pattern that is read as a finite datum is finite. -/
theorem isFinite32_of_read {mode : DenormMode} {w : Word} {s : Bool} {n : Nat} (h : read32 mode w = .fin s n) :
    isFinite32 w = true := by
  rcases class32_cases w with hn | hi | hf
  · cases (read32_of_nan mode hn).symm.trans h
  · cases (read32_of_inf mode hi).symm.trans h
  · exact hf

/-- R84: a query point comes from a finite frequency and a finite positive sample rate only. -/
theorem good_of_queryPoint {freq sr : Word} {q : DWord × DWord} (h : queryPoint freq sr = some q) :
    isFinite32 freq = true ∧ isFinite32 sr = true ∧ sr.msb = false ∧ isZero32 sr = false := by
  unfold queryPoint at h
  split at h
  case h_2 => cases h
  case h_1 s n m hfreq hsr =>
    have hfin := isFinite32_of_read hsr
    have hread := (read32_of_finite .ieee hfin).symm.trans hsr
    injection hread with hmsb hmag
    refine ⟨isFinite32_of_read hfreq, hfin, hmsb, Bool.eq_false_iff.mpr fun hz => ?_⟩
    rw [(isZero32_iff sr).mp hz] at hmag
    cases hmag

theorem pureGain_of_zeros {c : Coefs Word} (h1 : isZero32 c.b1 = true) (h2 : isZero32 c.b2 = true)
    (h3 : isZero32 c.a1 = true) (h4 : isZero32 c.a2 = true) : pureGain c = true := by
  simp [pureGain, h1, h2, h3, h4]

theorem isNaN64_quietNaN64 (draw : BitVec 52) : isNaN64 (quietNaN64 draw) = true := by
  have hexp : (quietNaN64 draw).extractLsb' 51 12 = 0xFFF := by
    rw [quietNaN64, BitVec.extractLsb'_append_eq_of_le (by decide),
      BitVec.extractLsb'_append_eq_of_add_le (by decide), BitVec.extractLsb'_eq_self]
  have hnum := congrArg BitVec.toNat hexp
  rw [BitVec.extractLsb'_toNat, Nat.shiftRight_eq_div_pow] at hnum
  rw [isNaN64, absBits64, decide_eq_true_iff]
  change (quietNaN64 draw).toNat / 2 ^ 51 % 2 ^ 12 = 0xFFF at hnum
  omega

theorem log10Of_nan {x : DWord} (h : isNaN64 x = true) : isNaN64 (log10Of x) = true := by
  rw [log10Of, read64_of_nan h]
  exact isNaN64_quietNaN64 _

theorem log10Of_negative {x : DWord} (hneg : x.msb = true) (hne : absBits64 x ≠ 0) : isNaN64 (log10Of x) = true := by
  rcases class64_cases x with h | h | h
  · exact log10Of_nan h
  · rw [log10Of, read64_of_inf h, hneg]
    exact isNaN64_quietNaN64 _
  · have hmag : mag64 x ≠ 0 := by
      intro h0
      have hb := roundBits_unitsOf 52 (absBits64 x) 0
      rw [← mag64_eq, h0] at hb
      exact hne (hb.symm.trans (by decide))
    obtain ⟨m, hm⟩ := Nat.exists_eq_succ_of_ne_zero hmag
    rw [log10Of, read64_of_finite h, hneg, hm]
    exact isNaN64_quietNaN64 _

/-! ## The statements -/

/-- Settles O46: the rounding by `roundBits_nearest`, each operation by the exact result on values. -/
theorem roundingIsNearestTiesToEven : Obligations.RoundingIsNearestTiesToEven :=
  ⟨fun _ n x b hfb => roundBits_nearest hfb n x b,
    fun mode ch _ _ k ha hb => ⟨add32_isResult mode ch k ha hb, sub32_isResult mode ch k ha hb,
      mul32_isResult mode ch k ha hb⟩,
    fun _ _ k ha hb => mul64_isResult k ha hb⟩

/-- Settles O47: 1.0 is a power of two of units, and a number of the format is its own rounding. -/
theorem multiplyingByOneIsExact : Obligations.MultiplyingByOneIsExact := by
  refine ⟨fun mode ch w n hnan h => ?_, fun w n hnan => ?_⟩
  · rcases class32_cases w with h' | hinf | hfin
    · cases hnan.symm.trans h'
    · exact mul32_one_of_inf mode ch hinf n
    · exact mul32_one_of_finite hfin h ch n
  · rcases class64_cases w with h' | hinf | hfin
    · cases hnan.symm.trans h'
    · exact mul64_one_of_inf hinf n
    · exact mul64_one_of_finite hfin n

/-- Settles O51: a product with 2^925 keeps the significand, which binary64 has room for. -/
theorem queryPointIsExact : Obligations.QueryPointIsExact := by
  intro freq sr
  constructor
  · rintro ⟨hf, hs, hpos, hz⟩
    exact ⟨_, _, queryPoint_of_good hf hs hpos hz, read64_widenFin hf _, read64_widenFin hs _⟩
  · intro hbad
    cases h : queryPoint freq sr with
    | none => rfl
    | some q => exact absurd (good_of_queryPoint h) hbad

/-- Settles O54. -/
theorem pureGainMagnitudeIsExact : Obligations.PureGainMagnitudeIsExact := by
  intro c f fs h1 h2 h3 h4
  have hpure := pureGain_of_zeros h1 h2 h3 h4
  refine ⟨fun hfin => ?_, fun hinf => ?_⟩
  · rw [stageMag, if_pos hpure, read32_of_finite .ieee hfin]
    exact read64_widenFin hfin false
  · rw [stageMag, if_pos hpure, read32_of_inf .ieee hinf]
    rfl

/-- Settles O55. -/
theorem logarithmHasAssumedProperties : Obligations.LogarithmHasAssumedProperties := by
  refine ⟨log10Of_one64, ?_, ?_, ?_, fun _ h => log10Of_nan h, fun _ hneg hne => log10Of_negative hneg hne⟩
  all_goals decide +kernel

end Sys2Proof.Machine
end

section
/-! PROOFS. The stage on special values (R64, R125, R29): zeros through an identity stage, samples that an identity
stage passes, and values that an operation cannot lose, a NaN and anything not finite. -/

namespace Sys2Proof.Machine

/-! ## Zeros -/

/-- The zero of a sign. -/
def zero32 (neg : Bool) : Word := pattern32 neg 0

theorem zero32_false : zero32 false = 0 := rfl

theorem zero32_true : zero32 true = 0x80000000 := rfl

theorem isZero32_iff_eq (w : Word) : isZero32 w = true ↔ w = zero32 w.msb := by
  constructor
  · intro h
    rw [zero32, ← eq_of_beq h, pattern32_absBits32]
  · intro h
    rw [h, isZero32, zero32, absBits32_pattern32 _ (by decide)]
    rfl

theorem isZero32_zero32 (neg : Bool) : isZero32 (zero32 neg) = true := by
  cases neg <;> decide

theorem isFinite32_of_isZero32 {w : Word} (h : isZero32 w = true) : isFinite32 w = true := by
  rw [isFinite32, eq_of_beq h]
  decide

/-- A zero is read as one in either mode. -/
theorem read32_of_isZero32 (mode : DenormMode) {w : Word} (h : isZero32 w = true) :
    read32 mode w = .fin w.msb 0 := by
  rw [read32_of_finite mode (isFinite32_of_isZero32 h), mag32_eq, eq_of_beq h]
  split <;> rfl

theorem read32_zero32 (mode : DenormMode) (neg : Bool) : read32 mode (zero32 neg) = .fin neg 0 := by
  rw [read32_of_isZero32 mode (isZero32_zero32 neg), zero32, msb_pattern32 neg (by decide)]

/-- The rounding of an exact zero is the zero of its sign. -/
theorem finish32_zero (mode : DenormMode) (neg : Bool) {x : Nat} : finish32 mode neg 0 x = zero32 neg := by
  have hround : roundBits 23 0 x = 0 := by
    have h := roundBits_unitsOf 23 0 x
    rwa [show unitsOf 23 0 = 0 from rfl, Nat.zero_mul] at h
  rw [finish32_eq, resultBits32, hround, if_neg (by decide)]
  split <;> rfl

theorem add32_zeros (mode : DenormMode) (ch : Channel) (s t : Bool) (n : Nat) :
    add32 mode ch (zero32 s) (zero32 t) n = (zero32 (s && t), n) := by
  rw [add32, read32_zero32, read32_zero32, addExact_fin, write32, signed_zero, signed_zero]
  exact congrArg (·, n) (finish32_zero mode _)

theorem sub32_zeros (mode : DenormMode) (ch : Channel) (s t : Bool) (n : Nat) :
    sub32 mode ch (zero32 s) (zero32 t) n = (zero32 (s && !t), n) := by
  rw [sub32, read32_zero32, read32_zero32, Fp.negate, addExact_fin, write32, signed_zero, signed_zero]
  exact congrArg (·, n) (finish32_zero mode _)

/-- A zero times a finite number is a zero. -/
theorem mul32_zero_finite (mode : DenormMode) (ch : Channel) (s : Bool) {w : Word} (h : isFinite32 w = true)
    (n : Nat) : mul32 mode ch (zero32 s) w n = (zero32 (s ^^ w.msb), n) := by
  rw [mul32, read32_zero32, read32_of_finite mode h, Fp.mulExact, Nat.zero_mul, write32, finish32_zero]

/-! ## Samples that an identity stage passes -/

/-- A sample that 1.0 and the zeros leave as it is. -/
def Unmoved (mode : DenormMode) (x : Word) : Prop :=
  ∀ (ch : Channel) (n : Nat), mul32 mode ch 0x3F800000 x n = (x, n) ∧
    ∀ s, add32 mode ch x (zero32 s) n = (x, n) ∧ sub32 mode ch x (zero32 s) n = (x, n)

theorem unmoved_of_inf (mode : DenormMode) {x : Word} (h : absBits32 x = 0x7F800000) : Unmoved mode x := by
  intro ch n
  have hinf : write32 mode ch 0 (.inf x.msb) n = (x, n) := by rw [write32, ← h, pattern32_absBits32]
  refine ⟨mul32_one_of_inf mode ch h n, fun s => ⟨?_, ?_⟩⟩
  · rw [add32, read32_of_inf mode h, read32_zero32]
    exact hinf
  · rw [sub32, read32_of_inf mode h, read32_zero32]
    exact hinf

/-- A plain sample that is a zero is +0. -/
theorem msb_of_plain_zero {mode : DenormMode} {x : Word} (h : plainSample mode x = true)
    (hz : mag32 mode x = 0) : x.msb = false := by
  simp only [plainSample, Bool.and_eq_true, decide_eq_true_eq] at h
  obtain ⟨⟨-, hne⟩, hleft⟩ := h
  rw [mag32_of_leftAlone hleft, ← mag32_ieee, ← isZero32_iff, isZero32_iff_eq] at hz
  by_contra hmsb
  rw [eq_true_of_ne_false hmsb] at hz
  exact hne hz

theorem addExact_zero {s : Bool} {m : Nat} (h : m = 0 → s = false) (t : Bool) :
    (Fp.fin s m).addExact (.fin t 0) = .fin s m := by
  rcases Nat.eq_zero_or_pos m with rfl | hpos
  · rw [h rfl]
    cases t <;> rfl
  · simp only [Fp.addExact, hpos, if_true, Nat.add_zero, Nat.sub_zero, ite_self]

theorem unmoved_of_plain {mode : DenormMode} {x : Word} (h : plainSample mode x = true) : Unmoved mode x := by
  intro ch n
  have hzero := msb_of_plain_zero h
  simp only [plainSample, Bool.and_eq_true] at h
  obtain ⟨⟨hfin, -⟩, hleft⟩ := h
  have hself : write32 mode ch 0 (.fin x.msb (mag32 mode x)) n = (x, n) :=
    congrArg (·, n) ((congrArg (finish32 mode x.msb · 0) (Nat.mul_one _).symm).trans (finish32_mag32 hfin hleft 0))
  refine ⟨mul32_one_of_finite hfin hleft ch n, fun s => ⟨?_, ?_⟩⟩
  · rw [add32, read32_of_finite mode hfin, read32_zero32, addExact_zero hzero, hself]
  · rw [sub32, read32_of_finite mode hfin, read32_zero32, Fp.negate, addExact_zero hzero, hself]

/-- Multiplication by a coefficient +0 of the identity set. -/
theorem mul32_literal_zero (mode : DenormMode) (ch : Channel) {w : Word} (h : isFinite32 w = true) (n : Nat) :
    mul32 mode ch 0 w n = (zero32 w.msb, n) := by
  rw [← zero32_false, mul32_zero_finite mode ch false h, Bool.false_xor]

/-- R61: an identity stage in DF2 passes such a sample and stores it, whatever finite numbers it holds. -/
theorem stageDf2_identity {mode : DenormMode} {x : Word} (hx : Unmoved mode x) {d : Delay Word}
    (h0 : isFinite32 d.d0 = true) (h1 : isFinite32 d.d1 = true) (ch : Channel) (n : Nat) :
    stageDf2 (arith32 mode ch) identityCoefs d x n = ⟨x, ⟨x, d.d0⟩, n⟩ := by
  have hmul (k : Nat) : mul32 mode ch 0x3F800000 x k = (x, k) := (hx ch k).1
  have hadd (s : Bool) (k : Nat) : add32 mode ch x (zero32 s) k = (x, k) := ((hx ch k).2 s).1
  have hsub (s : Bool) (k : Nat) : sub32 mode ch x (zero32 s) k = (x, k) := ((hx ch k).2 s).2
  simp only [stageDf2, arith32, identityCoefs, mul32_literal_zero mode ch h0, mul32_literal_zero mode ch h1, hsub,
    hmul, hadd]

/-- R62: an identity stage in TDF2 that holds zeros outputs such a sample. -/
theorem stageTdf2_identity_y {mode : DenormMode} {x : Word} (hx : Unmoved mode x) {d : Delay Word}
    (h0 : isZero32 d.d0 = true) (ch : Channel) (n : Nat) :
    (stageTdf2 (arith32 mode ch) identityCoefs d x n).y = x := by
  obtain ⟨hmul, hzeros⟩ := hx ch n
  obtain ⟨hadd, -⟩ := hzeros d.d0.msb
  rw [← (isZero32_iff_eq _).mp h0] at hadd
  simp only [stageTdf2, arith32, identityCoefs, hmul, hadd]

/-- R62: and when the sample is finite, +0 in both registers. -/
theorem stageTdf2_identity {mode : DenormMode} {x : Word} (hx : Unmoved mode x) (hfin : isFinite32 x = true)
    {d : Delay Word} (h0 : isZero32 d.d0 = true) (h1 : isZero32 d.d1 = true) (ch : Channel) (n : Nat) :
    stageTdf2 (arith32 mode ch) identityCoefs d x n = ⟨x, ⟨0, 0⟩, n⟩ := by
  have hmul (k : Nat) : mul32 mode ch 0x3F800000 x k = (x, k) := (hx ch k).1
  have hadd (s : Bool) (k : Nat) : add32 mode ch x (zero32 s) k = (x, k) := ((hx ch k).2 s).1
  obtain ⟨d0, d1⟩ := d
  rw [isZero32_iff_eq] at h0 h1
  dsimp only at h0 h1
  rw [h0, h1]
  simp only [stageTdf2, arith32, identityCoefs, hmul, hadd, mul32_literal_zero mode ch hfin, sub32_zeros,
    add32_zeros, Bool.and_not_self, Bool.false_and]
  rfl

/-- R29: an identity stage with a restful delay state passes a plain sample and stays restful. -/
theorem stageProcess_transparent {form : StageForm} {mode : DenormMode} {d : Delay Word} {x : Word}
    (hd : restfulStage form d = true) (hx : plainSample mode x = true) (ch : Channel) (n : Nat) :
    (stageProcess form (arith32 mode ch) identityCoefs d x n).y = x ∧
      restfulStage form (stageProcess form (arith32 mode ch) identityCoefs d x n).delay = true := by
  have hfin : isFinite32 x = true := by
    simp only [plainSample, Bool.and_eq_true] at hx
    obtain ⟨⟨hfin, -⟩, -⟩ := hx
    exact hfin
  have hun := unmoved_of_plain hx
  cases form with
  | df2 =>
    obtain ⟨h0, h1⟩ := Bool.and_eq_true_iff.mp hd
    rw [stageProcess, stageDf2_identity hun h0 h1]
    exact ⟨rfl, Bool.and_eq_true_iff.mpr ⟨hfin, h0⟩⟩
  | tdf2 =>
    obtain ⟨h0, h1⟩ := Bool.and_eq_true_iff.mp hd
    rw [stageProcess, stageTdf2_identity hun hfin h0 h1]
    exact ⟨rfl, rfl⟩

/-- R29: a chain of identity stages with a restful delay state passes a plain sample and stays restful,
whichever of its stages run. -/
theorem foldl_runStage_transparent {form : StageForm} {mode : DenormMode} {a : ActiveSet} {x : Word}
    (hcoef : a.coef = Chain.const identityCoefs) (hx : plainSample mode x = true) (ch : Channel)
    (sts : List StageId) (o : ChainOut Word) (hy : o.y = x) (hrest : restful form o.delay) :
    (sts.foldl (runStage form (arith32 mode ch) a) o).y = x ∧
      restful form (sts.foldl (runStage form (arith32 mode ch) a) o).delay := by
  induction sts generalizing o with
  | nil => exact ⟨hy, hrest⟩
  | cons st sts ih =>
    rw [List.foldl_cons]
    cases hruns : runs a st with
    | false =>
      rw [runStage_of_frozen hruns]
      exact ih o hy hrest
    | true =>
      rw [runStage_of_runs hruns, hcoef, Chain.get_const, hy]
      obtain ⟨hout, hdelay⟩ := stageProcess_transparent (hrest st) hx ch o.draws
      refine ih _ hout fun st' => ?_
      dsimp only
      rw [Chain.get_set]
      split
      · exact hdelay
      · exact hrest st'

/-! ## What no operation loses (R59, R64, R125) -/

theorem isNaN32_quietNaN32 (draw : BitVec 23) : isNaN32 (quietNaN32 draw) = true := by
  have hexp : (quietNaN32 draw).extractLsb' 22 9 = 0x1FF := by
    rw [quietNaN32, BitVec.extractLsb'_append_eq_of_le (by decide),
      BitVec.extractLsb'_append_eq_of_add_le (by decide), BitVec.extractLsb'_eq_self]
  have hnum := congrArg BitVec.toNat hexp
  rw [BitVec.extractLsb'_toNat, Nat.shiftRight_eq_div_pow] at hnum
  rw [isNaN32, absBits32, decide_eq_true_iff]
  change (quietNaN32 draw).toNat / 2 ^ 22 % 2 ^ 9 = 0x1FF at hnum
  omega

theorem isFinite32_of_isNaN32 {w : Word} (h : isNaN32 w = true) : isFinite32 w = false := by
  rw [isNaN32, decide_eq_true_iff] at h
  exact decide_eq_false (by omega)

/-- A datum that is not finite. -/
def Fp.Special : Fp → Prop
  | .nan => True
  | .inf _ => True
  | .fin _ _ => False

theorem read32_special {mode : DenormMode} {w : Word} (h : isFinite32 w = false) : (read32 mode w).Special := by
  rcases class32_cases w with hn | hi | hf
  · rw [read32_of_nan mode hn]
    trivial
  · rw [read32_of_inf mode hi]
    trivial
  · cases h.symm.trans hf

theorem negate_special {r : Fp} (h : r.Special) : r.negate.Special := by
  cases r with
  | fin s n => exact h
  | _ => trivial

theorem addExact_special : ∀ {p q : Fp}, p.Special ∨ q.Special → (p.addExact q).Special
  | .nan, _, _ => trivial
  | .inf _, .nan, _ => trivial
  | .fin _ _, .nan, _ => trivial
  | .inf s, .inf t, _ => by
    rw [Fp.addExact]
    split <;> trivial
  | .inf _, .fin _ _, _ => trivial
  | .fin _ _, .inf _, _ => trivial
  | .fin _ _, .fin _ _, h => h.elim False.elim False.elim

theorem mulExact_special : ∀ {p q : Fp}, p.Special ∨ q.Special → (p.mulExact q).Special
  | .nan, _, _ => trivial
  | .inf _, .nan, _ => trivial
  | .fin _ _, .nan, _ => trivial
  | .inf _, .inf _, _ => trivial
  | .inf s, .fin t m, _ => by
    rw [Fp.mulExact]
    split <;> trivial
  | .fin s n, .inf t, _ => by
    rw [Fp.mulExact]
    split <;> trivial
  | .fin _ _, .fin _ _, h => h.elim False.elim False.elim

theorem write32_special (mode : DenormMode) (ch : Channel) (x : Nat) {r : Fp} (h : r.Special) (n : Nat) :
    isFinite32 (write32 mode ch x r n).1 = false := by
  cases r with
  | nan => exact isFinite32_of_isNaN32 (isNaN32_quietNaN32 _)
  | inf s =>
    rw [write32, isFinite32, absBits32_pattern32 s (by decide)]
    rfl
  | fin s m => exact h.elim

theorem addExact_nan {p q : Fp} (h : p = .nan ∨ q = .nan) : p.addExact q = .nan := by
  rcases h with rfl | rfl
  · cases q <;> rfl
  · cases p <;> rfl

theorem mulExact_nan {p q : Fp} (h : p = .nan ∨ q = .nan) : p.mulExact q = .nan := by
  rcases h with rfl | rfl
  · cases q <;> rfl
  · cases p <;> rfl

theorem isNaN32_write32 (mode : DenormMode) (ch : Channel) (x : Nat) {r : Fp} (h : r = .nan) (n : Nat) :
    isNaN32 (write32 mode ch x r n).1 = true := by
  subst h
  exact isNaN32_quietNaN32 _

/-- A class of values that a result is in when an operand is. -/
structure Absorbs {α : Type} (ar : Arith α) (C : α → Prop) : Prop where
  add : ∀ {a b : α}, C a ∨ C b → ∀ n, C (ar.add a b n).1
  sub : ∀ {a b : α}, C a ∨ C b → ∀ n, C (ar.sub a b n).1
  mul : ∀ {a b : α}, C a ∨ C b → ∀ n, C (ar.mul a b n).1

theorem absorbs_nan (mode : DenormMode) (ch : Channel) : Absorbs (arith32 mode ch) (isNaN32 · = true) where
  add h n := isNaN32_write32 mode ch 0 (addExact_nan (h.imp (read32_of_nan mode) (read32_of_nan mode))) n
  sub h n :=
    isNaN32_write32 mode ch 0
      (addExact_nan (h.imp (read32_of_nan mode) fun hb => congrArg Fp.negate (read32_of_nan mode hb))) n
  mul h n := isNaN32_write32 mode ch 149 (mulExact_nan (h.imp (read32_of_nan mode) (read32_of_nan mode))) n

theorem absorbs_nonFinite (mode : DenormMode) (ch : Channel) :
    Absorbs (arith32 mode ch) (isFinite32 · = false) where
  add h n := write32_special mode ch 0 (addExact_special (h.imp read32_special read32_special)) n
  sub h n :=
    write32_special mode ch 0 (addExact_special (h.imp read32_special fun hb => negate_special (read32_special hb))) n
  mul h n := write32_special mode ch 149 (mulExact_special (h.imp read32_special read32_special)) n

/-- A stage holds such a value where its next output reads it. -/
def Holds {α : Type} (C : α → Prop) (form : StageForm) (d : Delay α) : Prop :=
  match form with
  | .df2 => C d.d0 ∨ C d.d1
  | .tdf2 => C d.d0

theorem poisoned_iff (form : StageForm) (d : Delay Word) :
    poisoned form d = true ↔ Holds (isNaN32 · = true) form d := by
  cases form with
  | df2 => exact Bool.or_eq_true_iff
  | tdf2 => exact Iff.rfl

theorem nonFiniteState_iff (form : StageForm) (d : Delay Word) :
    nonFiniteState form d = true ↔ Holds (isFinite32 · = false) form d := by
  cases form <;> simp [nonFiniteState, Holds]

/-- R61: once the input less the first product is in the class, so are the node and the output. -/
theorem stageDf2_absorbs {α : Type} {ar : Arith α} {C : α → Prop} (habs : Absorbs ar C) (c : Coefs α) (d : Delay α)
    (x : α) (n : Nat) (h : C x ∨ C d.d1 ∨ C (ar.mul c.a1 d.d0 n).1) :
    C (stageDf2 ar c d x n).y ∧ C (stageDf2 ar c d x n).delay.d0 := by
  have hw : C (stageDf2 ar c d x n).delay.d0 := by
    rcases h with hx | h1 | hm
    · exact habs.sub (.inl (habs.sub (.inl hx) _)) _
    · exact habs.sub (.inr (habs.mul (.inr h1) _)) _
    · exact habs.sub (.inl (habs.sub (.inr hm) _)) _
  exact ⟨habs.add (.inl (habs.add (.inl (habs.mul (.inr hw) _)) _)) _, hw⟩

/-- R62: an output in the class leaves d0 there. -/
theorem stageTdf2_absorbs {α : Type} {ar : Arith α} {C : α → Prop} (habs : Absorbs ar C) (c : Coefs α) (d : Delay α)
    (x : α) (n : Nat) (h : C x ∨ C d.d0) : C (stageTdf2 ar c d x n).y ∧ C (stageTdf2 ar c d x n).delay.d0 := by
  have hy : C (stageTdf2 ar c d x n).y :=
    h.elim (fun hx => habs.add (.inl (habs.mul (.inr hx) _)) _) fun h0 => habs.add (.inr h0) _
  exact ⟨hy, habs.add (.inl (habs.sub (.inr (habs.mul (.inr hy) _)) _)) _⟩

/-- R64, R125: a value of the class at the input, or in the delay state where the output reads it, makes the output
one and stays in the delay state. -/
theorem stageProcess_absorbs {α : Type} {ar : Arith α} {C : α → Prop} (habs : Absorbs ar C) (form : StageForm)
    (c : Coefs α) (d : Delay α) (x : α) (n : Nat) (h : C x ∨ Holds C form d) :
    C (stageProcess form ar c d x n).y ∧ Holds C form (stageProcess form ar c d x n).delay := by
  cases form with
  | df2 =>
    have h' : C x ∨ C d.d1 ∨ C (ar.mul c.a1 d.d0 n).1 := by
      rcases h with hx | h0 | h1
      · exact .inl hx
      · exact .inr (.inr (habs.mul (.inr h0) n))
      · exact .inr (.inl h1)
    obtain ⟨hy, hw⟩ := stageDf2_absorbs habs c d x n h'
    exact ⟨hy, .inl hw⟩
  | tdf2 => exact stageTdf2_absorbs habs c d x n h

/-- R64, R125: in d1 it reaches the place the output reads with the next sample. -/
theorem stageProcess_absorbs_d1 {α : Type} {ar : Arith α} {C : α → Prop} (habs : Absorbs ar C) (form : StageForm)
    (c : Coefs α) (d : Delay α) (x : α) (n : Nat) (h : C d.d1) :
    Holds C form (stageProcess form ar c d x n).delay := by
  cases form with
  | df2 => exact .inl (stageDf2_absorbs habs c d x n (.inr (.inl h))).2
  | tdf2 => exact habs.add (.inr h) _

/-! ## An infinity into an identity stage (R64 case 3) -/

/-- A zero times an infinity is a NaN. -/
theorem mul32_literal_zero_inf (mode : DenormMode) (ch : Channel) {x : Word} (h : absBits32 x = 0x7F800000)
    (n : Nat) : isNaN32 (mul32 mode ch 0 x n).1 = true := by
  rw [mul32, ← zero32_false, read32_zero32, read32_of_inf mode h]
  exact isNaN32_write32 mode ch 149 rfl n

/-- An identity stage outputs an infinity, and then a NaN whatever the next sample is. -/
theorem stageProcess_identity_inf {form : StageForm} {d : Delay Word} {x : Word}
    (hd : restfulStage form d = true) (hx : absBits32 x = 0x7F800000) (mode : DenormMode) (ch : Channel) (n : Nat) :
    (stageProcess form (arith32 mode ch) identityCoefs d x n).y = x ∧
      ∀ x' k, isNaN32 (stageProcess form (arith32 mode ch) identityCoefs
          (stageProcess form (arith32 mode ch) identityCoefs d x n).delay x' k).y = true ∧
        poisoned form (stageProcess form (arith32 mode ch) identityCoefs
          (stageProcess form (arith32 mode ch) identityCoefs d x n).delay x' k).delay = true := by
  have hun := unmoved_of_inf mode hx
  have habs := absorbs_nan mode ch
  cases form with
  | df2 =>
    obtain ⟨h0, h1⟩ := Bool.and_eq_true_iff.mp hd
    simp only [stageProcess, stageDf2_identity hun h0 h1, poisoned_iff]
    refine ⟨trivial, fun x' k => ?_⟩
    have hm : isNaN32 (mul32 mode ch identityCoefs.a1 x k).1 = true := mul32_literal_zero_inf mode ch hx k
    obtain ⟨hy, hw⟩ := stageDf2_absorbs habs identityCoefs ⟨x, d.d0⟩ x' k (.inr (.inr hm))
    exact ⟨hy, .inl hw⟩
  | tdf2 =>
    obtain ⟨h0, -⟩ := Bool.and_eq_true_iff.mp hd
    refine ⟨stageTdf2_identity_y hun h0 ch n, fun x' k => ?_⟩
    rw [poisoned_iff]
    refine stageProcess_absorbs habs .tdf2 identityCoefs _ x' k (.inr ?_)
    exact habs.add (.inl (habs.sub (.inl (mul32_literal_zero_inf mode ch hx _)) _)) _

/-! ## The channel (R125) -/

/-- What a stage does to a value of the class: it passes it on and keeps it, in whichever stage it is held. -/
theorem runStage_absorbs {ar : Arith Word} {C : Word → Prop} (habs : Absorbs ar C) (form : StageForm)
    (a : ActiveSet) (o : ChainOut Word) (st st' : StageId) :
    (C o.y → C (runStage form ar a o st').y) ∧
      (Holds C form (o.delay.get st) → Holds C form ((runStage form ar a o st').delay.get st)) := by
  cases hruns : runs a st' with
  | false =>
    rw [runStage_of_frozen hruns]
    exact ⟨id, id⟩
  | true =>
    have hstage := stageProcess_absorbs habs form (a.coef.get st') (o.delay.get st') o.y o.draws
    rw [runStage_of_runs hruns]
    refine ⟨fun hy => (hstage (.inl hy)).1, fun hd => ?_⟩
    dsimp only
    rw [Chain.get_set]
    split
    case isTrue heq => exact (hstage (.inr (heq ▸ hd))).2
    case isFalse => exact hd

theorem foldl_runStage_absorbs {ar : Arith Word} {C : Word → Prop} (habs : Absorbs ar C) (form : StageForm)
    (a : ActiveSet) (st : StageId) (sts : List StageId) (o : ChainOut Word) :
    (C o.y → C (sts.foldl (runStage form ar a) o).y) ∧
      (Holds C form (o.delay.get st) → Holds C form ((sts.foldl (runStage form ar a) o).delay.get st)) := by
  induction sts generalizing o with
  | nil => exact ⟨id, id⟩
  | cons st' sts ih =>
    obtain ⟨hy, hd⟩ := runStage_absorbs habs form a o st st'
    obtain ⟨hy', hd'⟩ := ih (runStage form ar a o st')
    exact ⟨hy' ∘ hy, hd' ∘ hd⟩

/-- A stage of the sequence that runs with such a value puts it into the output of the whole sequence. -/
theorem foldl_runStage_output {ar : Arith Word} {C : Word → Prop} (habs : Absorbs ar C) (form : StageForm)
    {a : ActiveSet} {st : StageId} (hruns : runs a st = true) {sts : List StageId} (hmem : st ∈ sts)
    (o : ChainOut Word) (hd : Holds C form (o.delay.get st)) : C (sts.foldl (runStage form ar a) o).y := by
  induction sts generalizing o with
  | nil => cases hmem
  | cons st' sts ih =>
    rcases List.mem_cons.mp hmem with rfl | hrest
    · refine (foldl_runStage_absorbs habs form a st sts _).1 ?_
      rw [runStage_of_runs hruns]
      exact (stageProcess_absorbs habs form _ _ _ _ (.inr hd)).1
    · exact ih hrest _ ((runStage_absorbs habs form a o st st').2 hd)

theorem mem_chainOrder (st : StageId) : st ∈ chainOrder := by
  cases st with
  | lc i => rcases slot_cases i with rfl | rfl | rfl | rfl <;> decide
  | pk => decide
  | hc i => rcases slot_cases i with rfl | rfl | rfl | rfl <;> decide

/-- R125: while a stage that runs holds such a value, the output of its channel is one and the stage keeps it. -/
theorem process_absorbs {s : State} {ch : Channel} {C : Word → Prop} (habs : Absorbs (arith32 s.params.denorm ch) C)
    (x : Word) {st : StageId} (hruns : runs (s.active ch) st = true)
    (hd : Holds C s.params.form ((s.delay ch).get st)) :
    C (s.process ch x).y ∧ Holds C s.params.form ((s.process ch x).delay.get st) := by
  rw [State.process, chainProcess_eq_foldl]
  exact ⟨foldl_runStage_output habs _ hruns (mem_chainOrder st) _ hd, (foldl_runStage_absorbs habs _ _ st _ _).2 hd⟩

theorem processSample_params (ch : Channel) (x : Word) (s : State) : (processSample ch x s).params = s.params := by
  rw [processSample_frame]

/-! ## The statements -/

/-- Settles O48: no operation loses a NaN, or a value that is not finite, so it runs through the stage and through
the stages after it. -/
theorem nanPoisonsTheStage : Obligations.NanPoisonsTheStage := by
  refine ⟨fun form mode ch c d x n => ?stage, fun form mode ch d x x' n hd hx => ?identity,
    fun s ch x st hrp hruns hd => ?channel⟩
  case stage =>
    have hnan := absorbs_nan mode ch
    have hnf := absorbs_nonFinite mode ch
    simp only [poisoned_iff, nonFiniteState_iff]
    exact ⟨stageProcess_absorbs hnan form c d x n, stageProcess_absorbs_d1 hnan form c d x n,
      stageProcess_absorbs hnf form c d x n, stageProcess_absorbs_d1 hnf form c d x n⟩
  case identity =>
    obtain ⟨hy, hnext⟩ := stageProcess_identity_inf hd hx mode ch n
    exact ⟨hy, hnext x' _⟩
  case channel =>
    rw [nonFiniteState_iff] at hd
    obtain ⟨hy, hkept⟩ := process_absorbs (absorbs_nonFinite s.params.denorm ch) x hruns hd
    refine ⟨_, (s.process ch x).y, exec_proc_of_rp hrp ch x, ?_, hy, ?_, fun hp => ?_⟩
    · rw [processSample_responses, hrp]
    · rw [nonFiniteState_iff, processSample_params, processSample_delay_self]
      exact hkept
    · rw [poisoned_iff] at hp
      rw [poisoned_iff, processSample_params, processSample_delay_self]
      exact process_absorbs (absorbs_nan s.params.denorm ch) x hruns hp

/-- Settles O50: by induction along the chain, whose stages all hold the identity set. -/
theorem resetChainIsTransparent : Obligations.ResetChainIsTransparent := by
  intro s ch x hrp hreset hrest hx
  have hcoef : (s.active ch).coef = Chain.const identityCoefs := by rw [hreset]; rfl
  obtain ⟨hy, hdelay⟩ := foldl_runStage_transparent hcoef hx ch chainOrder ⟨x, s.delay ch, s.draws ch⟩ rfl hrest
  rw [← chainProcess_eq_foldl] at hy hdelay
  refine ⟨_, exec_proc_of_rp hrp ch x, ?_, ?_⟩
  · rw [processSample_responses, hrp, State.process, hy]
  · rw [processSample_params, processSample_delay_self]
    exact hdelay

/-- Settles O49: the zeros of R64 case 1, operation by operation, in their signs. -/
theorem negativeZeroThroughIdentityStage : Obligations.NegativeZeroThroughIdentityStage := by
  intro mode ch n
  have hone (s : Bool) (k : Nat) : mul32 mode ch 0x3F800000 (zero32 s) k = (zero32 s, k) :=
    mul32_one_of_finite (isFinite32_of_isZero32 (isZero32_zero32 s)) (by cases mode <;> cases s <;> decide) ch k
  have hzero (s : Bool) (k : Nat) : mul32 mode ch (zero32 false) (zero32 s) k = (zero32 s, k) := by
    rw [mul32_zero_finite mode ch false (isFinite32_of_isZero32 (isZero32_zero32 s)), zero32, zero32,
      msb_pattern32 s (by decide), Bool.false_xor]
  rw [identityCoefs, ← zero32_false, ← zero32_true]
  constructor
  · simp only [stageProcess, stageDf2, arith32, hone, hzero, sub32_zeros, add32_zeros]
    rfl
  · simp only [stageProcess, stageTdf2, arith32, hone, hzero, sub32_zeros, add32_zeros]
    rfl

end Sys2Proof.Machine
end
